-- ==== Sys2Proof/Word.lean ====
section
/-! DEFINITION. The machine's word types (spec 00_scope.md R11). -/

namespace Sys2Proof

/-- A byte, `u8` of R11: bit 7 is the most significant bit. -/
abbrev Byte := BitVec 8

/-- A 16-bit unsigned value, `u16` of R11 (the checksum). -/
abbrev U16 := BitVec 16

/-- A 32-bit unsigned value, `u32` of R11 (the deadline, `TIMER_W` = 32 of R8). -/
abbrev U32 := BitVec 32

/-- The selection word SEL of R79. -/
abbrev Sel := BitVec 32

end Sys2Proof
end

