-- ==== Sys2Proof/Syntax.lean ====
section
/-! DEFINITION. What the frame codec block is given, as syntax: frames and request records (R12, R74),
the inputs of one cycle (R78), and the operations of spec/opcode_table.json, one constructor per row. -/

namespace Sys2Proof

/-- The frame record of R12: a descriptor and a payload; its length field is the payload's length. -/
structure Frame where
  desc    : Byte
  payload : List Byte
deriving DecidableEq, Repr, Inhabited

/-- The telemetry category `CFG_CLASS` answers (R8, R77). -/
inductive FrameClass where
  | imu
  | filter
  | other
deriving DecidableEq, Repr, Inhabited

/-- The request record of R74, taken whole in one cycle; the payload may have any length. -/
structure Request where
  desc    : Byte
  payload : List Byte
  timeout : U32
deriving DecidableEq, Repr, Inhabited

/-- The inputs of one cycle: the seven CYC strobes of R78 with the data each strobe qualifies.
`rx` is `rx_valid` with `rx_data`, `req` is `req_valid` with the request record: the data input has
a value only in the cycle its strobe is high (R247), so it is absent when the strobe is low. -/
structure CycleIn where
  rst     : Bool := false
  rx      : Option Byte := none
  rxErr   : Bool := false
  txReady : Bool := false
  txErr   : Bool := false
  req     : Option Request := none
  tick    : Bool := false
deriving DecidableEq, Repr, Inhabited

/-- The operation groups of R80, one selection each per cycle. The four codec functions have no
group: SEL does not select them. -/
inductive Group where
  | srSelect
  | srAction
  | ccRoute
  | ccSlot
  | ccTransmit
  | ccRequest
  | all
deriving DecidableEq, Repr

/-- The operations of spec/opcode_table.json, one constructor per row. An operation carries the
operands that its own encoding carries (the examined byte of SEL bits 31:24, for the rows that do not
fix it) or, for the codec functions, the arguments of the call; every other operand is read from the
state and the cycle's inputs. -/
inductive Instr where
  /-- FC.CHECKSUM, R100. -/
  | fcChecksum (bytes : List Byte)
  /-- FC.ENCODE, R102. -/
  | fcEncode (d : Byte) (p : List Byte)
  /-- FC.VERIFY, R104. -/
  | fcVerify (w : List Byte)
  /-- FC.DECODE, R105. -/
  | fcDecode (w : List Byte)
  /-- SR.SEL_REPLAY, R121. -/
  | selReplay
  /-- SR.SEL_INPUT, R121. -/
  | selInput
  /-- SR.SEL_NONE, R121. -/
  | selNone
  /-- SR.SCAN_SYNC2, R122; its row fixes the byte 0x65. -/
  | scanSync2
  /-- SR.SCAN_SYNC1, R122; its row fixes the byte 0x75. -/
  | scanSync1
  /-- SR.SCAN_OTHER, R122. -/
  | scanOther (b : Byte)
  /-- SR.ACC_APPEND, R123. -/
  | accAppend (b : Byte)
  /-- SR.ACC_EMIT, R125. -/
  | accEmit (b : Byte)
  /-- SR.ACC_RESCAN, R126. -/
  | accRescan (b : Byte)
  /-- CC.REQ_ALREADY_PENDING, R150. -/
  | reqAlreadyPending
  /-- CC.REQ_INVALID_ARGUMENT, R151. -/
  | reqInvalidArgument
  /-- CC.REQ_ACCEPT, R152. -/
  | reqAccept
  /-- CC.REQ_NONE, R153. -/
  | reqNone
  /-- CC.CMP_OK, R162. -/
  | cmpOk
  /-- CC.CMP_COMMAND_ERROR, R162. -/
  | cmpCommandError
  /-- CC.CMP_RX_IO_ERROR, R165. -/
  | cmpRxIoError
  /-- CC.CMP_TX_IO_ERROR, R166. -/
  | cmpTxIoError
  /-- CC.CMP_TIMEOUT, R171. -/
  | cmpTimeout
  /-- CC.TICK, R170. -/
  | tick
  /-- CC.HOLD, R172. -/
  | hold
  /-- CC.TX_BYTE, R156. -/
  | txByte
  /-- CC.TX_STALL, R157. -/
  | txStall
  /-- CC.ROUTE_REPLY, R162. -/
  | routeReply
  /-- CC.FORWARD_FRAME, R163. -/
  | forwardFrame
  /-- RESET, R230. -/
  | reset
deriving DecidableEq, Repr

end Sys2Proof
end

