-- ==== Sys2Proof/Config.lean ====
section
/-! DEFINITION. The implementation parameters of R8: the fixed ones as numbers, the OPEN ones and
the environment as opaque constants, of which nothing can be proved but what holds of any value. -/

namespace Sys2Proof.Config

/-- `SYNC1` of R8. -/
def sync1 : Byte := 0x75

/-- `SYNC2` of R8. -/
def sync2 : Byte := 0x65

/-- `MAX_PAYLOAD` of R8. -/
def maxPayload : Nat := 255

/-- `FRAME_OVERHEAD` of R8. -/
def frameOverhead : Nat := 6

/-- `MAX_FRAME` of R8. -/
def maxFrame : Nat := 261

/-- `RXBUF_BYTES` of R8 and R50. -/
def rxbufBytes : Nat := 259

/-- `TXBUF_BYTES` of R8 and R52. -/
def txbufBytes : Nat := 261

/-- `CK_INIT_A` of R8. -/
def ckInitA : Byte := 0

/-- `CK_INIT_B` of R8. -/
def ckInitB : Byte := 0

/-- `CFG_REPLY` of R8 and R9, OPEN: a pure function of the command's descriptor and the frame, of
which the model assumes nothing else (notes/assumptions/3.md). -/
opaque reply : Byte → Frame → Option Byte

/-- `CFG_CLASS` of R8 and R10, OPEN (notes/assumptions/3.md). -/
opaque classOf : Byte → FrameClass

/-- `TICK_PERIOD` of R8, OPEN: the real time of one `tick`, in nanoseconds. No rule reads it (93, I5). -/
opaque tickPeriod : Nat

/-- What the environment drives in the cycle of that number, in a run whose inputs the state does not
list: a free value (notes/assumptions/2.md). No input pattern is illegal (R84). -/
opaque environment : Nat → CycleIn

end Sys2Proof.Config
end

