-- ==== Sys2Proof/WellFormed.lean ====
section
/-! DEFINITION. When a term of the syntax is one the spec allows. -/

namespace Sys2Proof

/-- R12: a frame record's payload has at most 255 bytes. -/
def Frame.wellFormed (f : Frame) : Bool :=
  decide (f.payload.length ≤ Config.maxPayload)

/-- An operation that some selection word selects with these operands, or a codec function.
SR.SCAN_OTHER stands after SR.SCAN_SYNC1 in its group (R80, first row of the group that applies), so
it is never selected with the byte 0x75. Every other operand form admits every value (R72, R83). -/
def Instr.wellFormed : Instr → Bool
  | .scanOther b => b != Config.sync1
  | .fcChecksum _ => true
  | .fcEncode _ _ => true
  | .fcVerify _ => true
  | .fcDecode _ => true
  | .selReplay => true
  | .selInput => true
  | .selNone => true
  | .scanSync2 => true
  | .scanSync1 => true
  | .accAppend _ => true
  | .accEmit _ => true
  | .accRescan _ => true
  | .reqAlreadyPending => true
  | .reqInvalidArgument => true
  | .reqAccept => true
  | .reqNone => true
  | .cmpOk => true
  | .cmpCommandError => true
  | .cmpRxIoError => true
  | .cmpTxIoError => true
  | .cmpTimeout => true
  | .tick => true
  | .hold => true
  | .txByte => true
  | .txStall => true
  | .routeReply => true
  | .forwardFrame => true
  | .reset => true

end Sys2Proof
end

