-- ==== Sys2Proof/Decode.lean ====
section
/-! DEFINITION. The opcode map of R80 over the selection word SEL (R79): the rows of
spec/opcode_table.json with their match and mask, the decoder, and the encoder. A selection word
selects up to one operation in each of six groups, so the decoder answers a list. -/

namespace Sys2Proof

/-- One row of spec/opcode_table.json that is decoded from SEL: the row applies to a word `w` when
`w` and `mask` give `pattern`; `op` makes the operation from the word's examined-byte field. -/
structure Row where
  pattern : Sel
  mask    : Sel
  op      : Byte → Instr

/-- The row applies to the word (R80). -/
def Row.applies (r : Row) (w : Sel) : Bool :=
  (w &&& r.mask) == r.pattern

/-- Bit `n` of a selection word. -/
def selBit (w : Sel) (n : Nat) : Bool :=
  w.getLsbD n

/-- Bits 31:24 of SEL, the examined byte `b` (R79). -/
def selByte (w : Sel) : Byte :=
  w.extractLsb' 24 8

/-- Group SR_SELECT in its order. -/
def rowsSrSelect : List Row :=
  [ ⟨0x00000100, 0x00000101, fun _ => .selReplay⟩,
    ⟨0x00000002, 0x00000107, fun _ => .selInput⟩,
    ⟨0x00000000, 0x00000001, fun _ => .selNone⟩ ]

/-- Group SR_ACTION in its order. -/
def rowsSrAction : List Row :=
  [ ⟨0x65000480, 0xFF000681, fun _ => .scanSync2⟩,
    ⟨0x75000080, 0xFF000281, fun _ => .scanSync1⟩,
    ⟨0x00000080, 0x00000281, .scanOther⟩,
    ⟨0x00000280, 0x00002281, .accAppend⟩,
    ⟨0x00006280, 0x00006281, .accEmit⟩,
    ⟨0x00002280, 0x00006281, .accRescan⟩ ]

/-- Group CC_ROUTE in its order. -/
def rowsCcRoute : List Row :=
  [ ⟨0x00018000, 0x00018001, fun _ => .routeReply⟩,
    ⟨0x00008000, 0x00018001, fun _ => .forwardFrame⟩ ]

/-- Group CC_SLOT in its order, the last row apart. -/
def rowsCcSlotEvent : List Row :=
  [ ⟨0x00030800, 0x00030801, fun _ => .cmpOk⟩,
    ⟨0x00010800, 0x00030801, fun _ => .cmpCommandError⟩,
    ⟨0x00000804, 0x00000805, fun _ => .cmpRxIoError⟩,
    ⟨0x00000810, 0x00001811, fun _ => .cmpTxIoError⟩,
    ⟨0x00080840, 0x00080841, fun _ => .cmpTimeout⟩,
    ⟨0x00000840, 0x00000841, fun _ => .tick⟩ ]

/-- The last row of CC_SLOT. -/
def rowHold : Row := ⟨0x00000800, 0x00000801, fun _ => .hold⟩

/-- The first row of CC_TRANSMIT. -/
def rowTxByte : Row := ⟨0x00000808, 0x00001819, fun _ => .txByte⟩

/-- The last row of CC_TRANSMIT. -/
def rowTxStall : Row := ⟨0x00000800, 0x00001801, fun _ => .txStall⟩

/-- Group CC_REQUEST in its order, the last row apart. -/
def rowsCcRequest : List Row :=
  [ ⟨0x00000820, 0x00000821, fun _ => .reqAlreadyPending⟩,
    ⟨0x00040020, 0x00040821, fun _ => .reqInvalidArgument⟩,
    ⟨0x00000020, 0x00040821, fun _ => .reqAccept⟩ ]

/-- The last row of CC_REQUEST. -/
def rowReqNone : Row := ⟨0x00000000, 0x00000021, fun _ => .reqNone⟩

/-- The row RESET, group ALL. -/
def rowReset : Row := ⟨0x00000001, 0x00000001, fun _ => .reset⟩

/-- The rows of a group in increasing `order` (R80). -/
def Group.rows : Group → List Row
  | .srSelect => rowsSrSelect
  | .srAction => rowsSrAction
  | .ccRoute => rowsCcRoute
  | .ccSlot => rowsCcSlotEvent ++ [rowHold]
  | .ccTransmit => [rowTxByte, rowTxStall]
  | .ccRequest => rowsCcRequest ++ [rowReqNone]
  | .all => [rowReset]

/-- The operation of the first row of the list that applies to the word. -/
def firstRow (rows : List Row) (w : Sel) : Option Instr :=
  (rows.find? (·.applies w)).map fun r => r.op (selByte w)

/-- R80: within a group, the first row that applies; none where the group performs nothing. -/
def decodeGroup (g : Group) (w : Sel) : Option Instr :=
  firstRow g.rows w

/-- The six groups in the order in which R190 evaluates them. -/
def cycleGroups : List Group :=
  [.srSelect, .srAction, .ccRoute, .ccSlot, .ccTransmit, .ccRequest]

/-- Why a word is no selection word. -/
inductive DecodeError where
  /-- Bits 23:20 of SEL, which R79 reserves as 0, are not 0. -/
  | reservedBits
  /-- The word does not fit SEL's 32 bits. -/
  | tooWide
deriving DecidableEq, Repr

/-- Bits 23:20 of SEL are reserved and 0 (R79). -/
def reservedClear (w : Sel) : Bool :=
  (w &&& 0x00F00000) == 0

/-- The operations that a selection word selects, in R190's order: the single operation RESET when
`rst` is 1, otherwise at most one from each group (R80). -/
def decode (w : Sel) : Except DecodeError (List Instr) :=
  if reservedClear w then
    match decodeGroup .all w with
    | some i => .ok [i]
    | none => .ok (cycleGroups.filterMap (decodeGroup · w))
  else .error .reservedBits

/-- The rows in the order in which the model names ONE operation for a word that selects several
(notes/assumptions/6.md): a row stands before every row of another group that applies to its word. -/
def principalRows : List Row :=
  [rowReset] ++ rowsSrAction ++ rowsCcRoute ++ rowsCcRequest ++ rowsCcSlotEvent
    ++ [rowTxByte, rowHold, rowTxStall] ++ rowsSrSelect ++ [rowReqNone]

/-- The operation a table word stands for, or why there is none. The codec functions are not decoded
from SEL (their rows' note), so no word stands for one. -/
def decodeWord (w : Nat) : Except DecodeError (Option Instr) :=
  if w < 2 ^ 32 then
    if reservedClear (BitVec.ofNat 32 w) then .ok (firstRow principalRows (BitVec.ofNat 32 w))
    else .error .reservedBits
  else .error .tooWide

/-- The operation of the selection word whose low `nbits` bits are `w`, the bits above them 0. -/
def decodeTableWord (nbits w : Nat) : Option Instr :=
  match decodeWord (w % 2 ^ nbits) with
  | .ok i => i
  | .error _ => none

/-- The group of an operation in spec/opcode_table.json; none for the codec functions. -/
def Instr.group : Instr → Option Group
  | .fcChecksum _ => none
  | .fcEncode _ _ => none
  | .fcVerify _ => none
  | .fcDecode _ => none
  | .selReplay => some .srSelect
  | .selInput => some .srSelect
  | .selNone => some .srSelect
  | .scanSync2 => some .srAction
  | .scanSync1 => some .srAction
  | .scanOther _ => some .srAction
  | .accAppend _ => some .srAction
  | .accEmit _ => some .srAction
  | .accRescan _ => some .srAction
  | .reqAlreadyPending => some .ccRequest
  | .reqInvalidArgument => some .ccRequest
  | .reqAccept => some .ccRequest
  | .reqNone => some .ccRequest
  | .cmpOk => some .ccSlot
  | .cmpCommandError => some .ccSlot
  | .cmpRxIoError => some .ccSlot
  | .cmpTxIoError => some .ccSlot
  | .cmpTimeout => some .ccSlot
  | .tick => some .ccSlot
  | .hold => some .ccSlot
  | .txByte => some .ccTransmit
  | .txStall => some .ccTransmit
  | .routeReply => some .ccRoute
  | .forwardFrame => some .ccRoute
  | .reset => some .all

/-- A word with its examined-byte field (bits 31:24) set to `b`, over a pattern whose field is 0. -/
def withSelByte (b : Byte) (pattern : BitVec 24) : Sel :=
  (b.setWidth 32 <<< 24) ||| pattern.setWidth 32

/-- The words of an operation: the one selection word that has its row's fixed bits, its operand
byte in bits 31:24 and 0 elsewhere. A codec function has none. -/
def encode : Instr → List Sel
  | .fcChecksum _ => []
  | .fcEncode _ _ => []
  | .fcVerify _ => []
  | .fcDecode _ => []
  | .selReplay => [withSelByte 0x00 0x000100]
  | .selInput => [withSelByte 0x00 0x000002]
  | .selNone => [withSelByte 0x00 0x000000]
  | .scanSync2 => [withSelByte 0x65 0x000480]
  | .scanSync1 => [withSelByte 0x75 0x000080]
  | .scanOther b => [withSelByte b 0x000080]
  | .accAppend b => [withSelByte b 0x000280]
  | .accEmit b => [withSelByte b 0x006280]
  | .accRescan b => [withSelByte b 0x002280]
  | .reqAlreadyPending => [withSelByte 0x00 0x000820]
  | .reqInvalidArgument => [withSelByte 0x00 0x040020]
  | .reqAccept => [withSelByte 0x00 0x000020]
  | .reqNone => [withSelByte 0x00 0x000000]
  | .cmpOk => [withSelByte 0x00 0x030800]
  | .cmpCommandError => [withSelByte 0x00 0x010800]
  | .cmpRxIoError => [withSelByte 0x00 0x000804]
  | .cmpTxIoError => [withSelByte 0x00 0x000810]
  | .cmpTimeout => [withSelByte 0x00 0x080840]
  | .tick => [withSelByte 0x00 0x000840]
  | .hold => [withSelByte 0x00 0x000800]
  | .txByte => [withSelByte 0x00 0x000808]
  | .txStall => [withSelByte 0x00 0x000800]
  | .routeReply => [withSelByte 0x00 0x018000]
  | .forwardFrame => [withSelByte 0x00 0x008000]
  | .reset => [withSelByte 0x00 0x000001]

end Sys2Proof
end

