-- ==== Sys2Proof/Machine/State.lean ====
section
/-! DEFINITION. The state of the frame codec block as plain data (10_state.md), why a step can stop,
and the state after reset (R39). -/

namespace Sys2Proof.Machine

/-- `sr_mode` of R28. -/
inductive SrMode where
  | scan
  | acc
deriving DecidableEq, Repr, Inhabited

/-- `cc_phase` of R30. -/
inductive TxPhase where
  | tx
  | wait
deriving DecidableEq, Repr, Inhabited

/-- The CC registers other than `cc_busy` (R30, R31). They hold a value exactly while `cc_busy` is 1
(R33), so the slot holds this record or nothing (R194; notes/assumptions/4.md). -/
structure Pending where
  /-- `cc_desc`, the descriptor of the pending command. -/
  desc  : Byte
  /-- `cc_timer`, ticks left to the deadline. -/
  timer : U32
  /-- `cc_phase`. -/
  phase : TxPhase
  /-- `cc_txf`, the encoded command frame (TXBUF, R52). -/
  txf   : List Byte
  /-- `cc_txi`, the index in `cc_txf` of the next byte to send. -/
  txi   : Nat
deriving DecidableEq, Repr

/-- The ten registers (R28, R30, R31), the whole architectural state (R34). -/
structure Regs where
  /-- `sr_mode`. -/
  srMode : SrMode
  /-- `sr_pre`. -/
  srPre  : Bool
  /-- `sr_acc`. -/
  srAcc  : List Byte
  /-- `sr_rep`, oldest byte first. -/
  srRep  : List Byte
  /-- `cc_busy` (a command is held) with the other CC registers. -/
  cc     : Option Pending
deriving DecidableEq, Repr

/-- The kinds of `rq_code` (R76). -/
inductive RqCode where
  | accepted
  | alreadyPending
  | invalidArgument
deriving DecidableEq, Repr

/-- The kinds of `cmp_status` (R75). -/
inductive CmpStatus where
  | ok
  | commandError
  | timeoutError
  | ioError
deriving DecidableEq, Repr

/-- The completion record of R75. -/
structure Completion where
  status : CmpStatus
  code   : Byte
  desc   : Byte
deriving DecidableEq, Repr

/-- The frame output record of R77. -/
structure FrameOut where
  desc    : Byte
  len     : Byte
  payload : List Byte
  cls     : FrameClass
deriving DecidableEq, Repr

/-- The output record O of a cycle (R191). A record is present exactly when its valid strobe is 1;
its fields carry no value otherwise (R247; notes/assumptions/9.md). -/
structure Output where
  rxReady : Bool := false
  busy    : Bool := false
  /-- `tx_valid` with `tx_data`. -/
  tx      : Option Byte := none
  /-- `rq_valid` with `rq_code`. -/
  rq      : Option RqCode := none
  /-- `cmp_valid` with the completion record. -/
  cmp     : Option Completion := none
  /-- `fo_valid` with the frame output record. -/
  fo      : Option FrameOut := none
deriving DecidableEq, Repr

/-- What a codec function answers (R100 to R105). -/
inductive FcResult where
  | checksum (c : U16)
  | encoded (w : List Byte)
  | invalidArgument
  | verified (ok : Bool)
  | decoded (f : Option Frame)
deriving DecidableEq, Repr

/-- Internal signals of the cycle last run, the model's own record (notes/assumptions/8.md). No port
shows them and no operation reads them. -/
structure Wires where
  /-- `ex` with `b` of R79: the byte SR examines. -/
  exam  : Option Byte := none
  /-- The byte transferred from the byte source (R21). -/
  taken : Option Byte := none
  /-- `fe` of R79 with the frame SR hands to CC (R160). -/
  frame : Option Frame := none
  /-- `rm` of R79 with the reply's ACK byte (R161). -/
  ack   : Option Byte := none
  /-- The byte transferred to the byte sink (R22, R156). -/
  sent  : Option Byte := none
  /-- The result of the codec function called by name (R27). -/
  fc    : Option FcResult := none
deriving DecidableEq, Repr

/-- One given value of `CFG_REPLY`: the answer for one command descriptor and one frame. -/
structure ReplyEntry where
  desc  : Byte
  frame : Frame
  ack   : Option Byte
deriving DecidableEq, Repr

/-- One given value of `CFG_CLASS`. -/
structure ClassEntry where
  desc : Byte
  cls  : FrameClass
deriving DecidableEq, Repr

/-- The values of `CFG_REPLY` and `CFG_CLASS` the model is given as an argument (R8); where no entry
stands, the opaque parameters of Config decide (notes/assumptions/3.md). -/
structure CfgTable where
  replies : List ReplyEntry := []
  classes : List ClassEntry := []
deriving DecidableEq, Repr

/-- The state. Between two cycles `regs` is S and `nxt` equals it; within a cycle `regs` stays S and
`nxt` is the S' being built (R13, R62; notes/assumptions/1.md). -/
structure State where
  /-- The registers as they stand at the start of the cycle (S). -/
  regs  : Regs
  /-- The registers' values at the end of the cycle (S'), the model's own field. -/
  nxt   : Regs
  /-- The inputs listed for the coming cycles, the model's own field (notes/assumptions/2.md). -/
  ports : List CycleIn
  /-- How many cycles have been run, the model's own field (notes/assumptions/2.md). -/
  cycle : Nat
  /-- The outputs of the cycle last run (R191). -/
  out   : Output
  /-- Internal signals of the cycle last run, the model's own field. -/
  wires : Wires
  /-- Given values of the OPEN parameters, fixed while the block runs (R37). -/
  cfg   : CfgTable
deriving DecidableEq, Repr

/-- Why the machine stops with a fault. Each is safe: an operation that SEL selects in a state
satisfying R29 and R32 raises none (R192). -/
inductive Fault where
  /-- A rule reads a CC register while `cc_busy` is 0; R33 demands a fault. Raised by the slot,
  transmit and reply operations. Safe. -/
  | idleSlotRead
  /-- RepPop on an empty rescan queue; R54 requires it not to be empty. Raised by SR.SEL_REPLAY. Safe. -/
  | rescanQueueEmpty
  /-- MemRead of TXBUF at or beyond its length, which R55 says cannot occur. Raised where `tx_data`
  is driven and by CC.TX_BYTE. Safe. -/
  | txIndexOutOfRange
  /-- A data input is read while its strobe is 0, when R247 gives it no value. Raised by SR.SEL_INPUT
  and CC.REQ_ACCEPT. Safe. -/
  | strobeLow
  /-- SR.ACC_EMIT on bytes that are no complete frame (R124). Safe. -/
  | frameIncomplete
  /-- CC.FORWARD_FRAME in a cycle in which SR emits no frame (R163 requires `fe` = 1). Safe. -/
  | noFrame
  /-- CC.ROUTE_REPLY or CC.CMP_COMMAND_ERROR in a cycle with no matching reply (R162 requires
  `rm` = 1). Safe. -/
  | noReply
  /-- CC.REQ_ACCEPT with a payload that FC.ENCODE does not take (R152 requires at most 255 bytes). Safe. -/
  | payloadTooLong
deriving DecidableEq, Repr

/-- Why an instruction is refused. -/
inductive Refusal where
  /-- Raised by an arm of `exec` whose instruction has no meaning yet. Safe. No arm raises it. -/
  | notModelled (mnemonic : String)
  /-- The selection word has a reserved bit set, which R79 rules out. Raised by a step whose
  selection word does not decode; no state has such a word. Safe. -/
  | reservedSelection
deriving DecidableEq, Repr

/-- The registers after reset (R39, R230). -/
def Regs.reset : Regs :=
  { srMode := .scan, srPre := false, srAcc := [], srRep := [], cc := none }

/-- Every output inactive (R231). -/
def Output.inactive : Output := {}

/-- The machine right after reset and at power-on (R39, R232). -/
def State.reset : State :=
  { regs := .reset, nxt := .reset, ports := [], cycle := 0, out := .inactive, wires := {}, cfg := {} }

end Sys2Proof.Machine
end

