-- ==== Sys2Proof/Machine/Codec.lean ====
section
/-! DEFINITION. The Frame Codec's pure functions (40_codec.md R100 to R105). -/

namespace Sys2Proof.Machine

/-- The two accumulators of R100, A first. -/
structure CkAccum where
  a : Byte
  b : Byte
deriving DecidableEq, Repr

/-- One round of R100: A adds the byte, then B adds the new A, both modulo 256. -/
def ckRound (acc : CkAccum) (x : Byte) : CkAccum :=
  { a := acc.a + x, b := acc.b + (acc.a + x) }

/-- The accumulators after the whole sequence, from the start values of R8. -/
def ckAccum (s : List Byte) : CkAccum :=
  s.foldl ckRound { a := Config.ckInitA, b := Config.ckInitB }

/-- Big-endian assembly of a checksum field (R73, R56). -/
def beWord (hi lo : Byte) : U16 :=
  (hi.setWidth 16 <<< 8) ||| lo.setWidth 16

/-- `ck[15:8]` (R73). -/
def hiByte (c : U16) : Byte := c.extractLsb' 8 8

/-- `ck[7:0]` (R73). -/
def loByte (c : U16) : Byte := c.extractLsb' 0 8

/-- FC.CHECKSUM (R100). -/
def checksum (s : List Byte) : U16 :=
  beWord (ckAccum s).a (ckAccum s).b

/-- The checksummed part of a frame: sync marker, descriptor, length, payload (R70, R102). -/
def frameHead (d : Byte) (p : List Byte) : List Byte :=
  Config.sync1 :: Config.sync2 :: d :: BitVec.ofNat 8 p.length :: p

/-- FC.ENCODE (R102); none is `InvalidArgument`. -/
def encodeFrame (d : Byte) (p : List Byte) : Option (List Byte) :=
  if p.length ≤ Config.maxPayload then
    some (frameHead d p ++
      [hiByte (checksum (frameHead d p)), loByte (checksum (frameHead d p))])
  else none

/-- FC.VERIFY (R104). -/
def verify (w : List Byte) : Bool :=
  if w.length < Config.frameOverhead then false
  else
    match w.drop (w.length - 2) with
    | [hi, lo] => checksum (w.take (w.length - 2)) == beWord hi lo
    | _ => false

/-- FC.DECODE (R105). -/
def decodeFrame (w : List Byte) : Option Frame :=
  match w with
  | s1 :: s2 :: d :: l :: rest =>
    if s1 = Config.sync1 ∧ s2 = Config.sync2 ∧ w.length = Config.frameOverhead + l.toNat
        ∧ verify w = true then
      some { desc := d, payload := rest.take l.toNat }
    else none
  | _ => none

end Sys2Proof.Machine
end

