-- ==== Sys2Proof/Machine/Operands.lean ====
section
/-! DEFINITION. The operand forms of R81 and the numeric codes of the port records (R75 to R77). Every
operand is a function of the state at the start of the cycle and of that cycle's inputs (R13). -/

namespace Sys2Proof.Machine

/-- The inputs of the coming cycle: the first listed, or what the environment drives, a free value
(notes/assumptions/2.md). -/
def State.inp (s : State) : CycleIn :=
  match s.ports with
  | i :: _ => i
  | [] => Config.environment s.cycle

/-- `CFG_REPLY` (R9): a given value where an entry stands, else the OPEN parameter. -/
def State.cfgReply (s : State) (c : Byte) (f : Frame) : Option Byte :=
  match s.cfg.replies.find? fun e => e.desc == c && e.frame == f with
  | some e => e.ack
  | none => Config.reply c f

/-- `CFG_CLASS` (R10): a given value where an entry stands, else the OPEN parameter. -/
def State.cfgClass (s : State) (d : Byte) : FrameClass :=
  match s.cfg.classes.find? fun e => e.desc == d with
  | some e => e.cls
  | none => Config.classOf d

/-- The byte SR examines in the cycle (R121): the oldest queued byte, else a byte transferred from
the source; none in a reset cycle (R230). -/
def examined (s : State) : Option Byte :=
  if s.inp.rst then none
  else
    match s.regs.srRep with
    | b :: _ => some b
    | [] => if s.inp.rxErr then none else s.inp.rx

/-- The frame-completion test of R124 on `sr_acc'`, the bytes after the sync marker. -/
def frameComplete (a : List Byte) : Bool :=
  match a with
  | _ :: l :: _ => decide (4 ≤ a.length ∧ a.length = l.toNat + 4)
  | _ => false

/-- The candidate's checksum test of R124: the sync marker put back in front, then `verify`. -/
def candidateVerifies (a : List Byte) : Bool :=
  verify (Config.sync1 :: Config.sync2 :: a)

/-- The frame of a complete `sr_acc'` (R81, R125): `desc` is its byte 0, `payload` the bytes 2 to
`2 + L - 1` with `L` its byte 1. -/
def assembleFrame (a : List Byte) : Option Frame :=
  if frameComplete a then
    match a with
    | d :: l :: rest => some { desc := d, payload := rest.take l.toNat }
    | _ => none
  else none

/-- `sr_acc' = sr_acc ++ [b]`, when SR is in ACC and examines a byte. -/
def candidate (s : State) : Option (List Byte) :=
  match s.regs.srMode, examined s with
  | .acc, some b => some (s.regs.srAcc ++ [b])
  | _, _ => none

/-- The frame SR emits in the cycle (R125, `fe` of R79). -/
def emitted (s : State) : Option Frame :=
  match candidate s with
  | some a => if candidateVerifies a then assembleFrame a else none
  | none => none

/-- The ACK byte of the matching reply, when the cycle's frame is one (R161, `rm` of R79). -/
def replyAck (s : State) : Option Byte :=
  match emitted s, s.regs.cc with
  | some f, some p => if p.phase = .wait then s.cfgReply p.desc f else none
  | _, _ => none

/-- Whether the pending command completes in the cycle (R162 to R171), which holds back `cc_txi`
and `cc_timer` (R168). -/
def completionDue (s : State) : Bool :=
  match s.regs.cc with
  | none => false
  | some p =>
    (replyAck s).isSome || s.inp.rxErr || (p.phase == .tx && s.inp.txErr)
      || (s.inp.tick && decide (p.timer.toNat ≤ 1))

/-- The byte CC offers to the sink (R155): `tx_valid` with `tx_data`. A read beyond TXBUF faults
(R55; notes/assumptions/10.md). -/
def txOffer (s : State) : Except Fault (Option Byte) :=
  if s.inp.rst then .ok none
  else
    match s.regs.cc with
    | none => .ok none
    | some p =>
      if p.phase = .tx then
        match p.txf[p.txi]? with
        | some b => .ok (some b)
        | none => .error .txIndexOutOfRange
      else .ok none

/-- The frame output record of R163 for a frame. -/
def frameOut (s : State) (f : Frame) : FrameOut :=
  { desc := f.desc, len := BitVec.ofNat 8 f.payload.length, payload := f.payload,
    cls := s.cfgClass f.desc }

/-- The numbers of `rq_code` (R76); 3 is reserved and never driven. -/
def RqCode.code : RqCode → BitVec 2
  | .accepted => 0
  | .alreadyPending => 1
  | .invalidArgument => 2

/-- The numbers of `cmp_status` (R75). -/
def CmpStatus.code : CmpStatus → BitVec 2
  | .ok => 0
  | .commandError => 1
  | .timeoutError => 2
  | .ioError => 3

/-- The numbers of `fo_class` (R77); 3 is reserved and never driven. -/
def foClassCode : FrameClass → BitVec 2
  | .imu => 0
  | .filter => 1
  | .other => 2

/-- The number of `sr_mode` (R28). -/
def SrMode.code : SrMode → BitVec 1
  | .scan => 0
  | .acc => 1

/-- The number of `cc_phase` (R30). -/
def TxPhase.code : TxPhase → BitVec 1
  | .tx => 0
  | .wait => 1

end Sys2Proof.Machine
end

