-- ==== Sys2Proof/Machine/Flags.lean ====
section
/-! DEFINITION. The FCB has no condition codes (R36). What selects its operations are the strobes and
derived conditions of the selection word SEL (R78, R79), computed here, with the status outputs. -/

namespace Sys2Proof.Machine

/-- A word of which bit `n` is `v` and every other bit is 0. -/
def bitAt (w : Nat) (v : Bool) (n : Nat) : BitVec w :=
  (BitVec.ofBool v).setWidth w <<< n

/-- The CYC word of R78. -/
def cycWord (i : CycleIn) : BitVec 7 :=
  bitAt 7 i.rst 0 ||| bitAt 7 i.rx.isSome 1 ||| bitAt 7 i.rxErr 2 ||| bitAt 7 i.txReady 3
    ||| bitAt 7 i.txErr 4 ||| bitAt 7 i.req.isSome 5 ||| bitAt 7 i.tick 6

/-- The fields of SEL (R79). -/
structure SelBits where
  cyc    : BitVec 7
  ex     : Bool
  rep    : Bool
  mode   : Bool
  pre    : Bool
  busy   : Bool
  phase  : Bool
  fc     : Bool
  ckok   : Bool
  fe     : Bool
  rm     : Bool
  ackz   : Bool
  lenbad : Bool
  tle1   : Bool
  b      : Byte
deriving DecidableEq, Repr

/-- Bit layout of SEL (R79), bits 23:20 reserved as 0. -/
def SelBits.pack (x : SelBits) : Sel :=
  x.cyc.setWidth 32 ||| bitAt 32 x.ex 7 ||| bitAt 32 x.rep 8 ||| bitAt 32 x.mode 9
    ||| bitAt 32 x.pre 10 ||| bitAt 32 x.busy 11 ||| bitAt 32 x.phase 12 ||| bitAt 32 x.fc 13
    ||| bitAt 32 x.ckok 14 ||| bitAt 32 x.fe 15 ||| bitAt 32 x.rm 16 ||| bitAt 32 x.ackz 17
    ||| bitAt 32 x.lenbad 18 ||| bitAt 32 x.tle1 19 ||| (x.b.setWidth 32 <<< 24)

/-- The conditions of R79 for the coming cycle. -/
def selBits (s : State) : SelBits where
  cyc    := cycWord s.inp
  ex     := (examined s).isSome
  rep    := !s.regs.srRep.isEmpty
  mode   := s.regs.srMode == .acc
  pre    := s.regs.srPre
  busy   := s.regs.cc.isSome
  phase  := match s.regs.cc with
            | some p => p.phase == .wait
            | none => false
  fc     := match candidate s with
            | some a => frameComplete a
            | none => false
  ckok   := match candidate s with
            | some a => frameComplete a && candidateVerifies a
            | none => false
  fe     := (emitted s).isSome
  rm     := (replyAck s).isSome
  ackz   := replyAck s == some 0
  lenbad := match s.inp.req with
            | some r => decide (Config.maxPayload < r.payload.length)
            | none => false
  tle1   := match s.regs.cc with
            | some p => decide (p.timer.toNat ≤ 1)
            | none => false
  b      := (examined s).getD 0

/-- The selection word of the coming cycle (R79). -/
def selWord (s : State) : Sel :=
  (selBits s).pack

/-- `rx_ready` (R120), which a reset cycle holds at 0 (R231). -/
def rxReadyFlag (s : State) : Bool :=
  !s.inp.rst && s.regs.srRep.isEmpty

/-- The `busy` output (R36), which a reset cycle holds at 0 (R231). -/
def busyFlag (s : State) : Bool :=
  !s.inp.rst && s.regs.cc.isSome

end Sys2Proof.Machine
end

