-- ==== Sys2Proof/Machine/Ops.lean ====
section
/-! DEFINITION. The named operations over registers and buffers. `r <- v` of R13 writes S', the field
`nxt`; a register is read in S, the field `regs`. RXBUF and TXBUF are reached only through the
primitives of R54 and R55. `complete` is the one shared operation by which a command ends (R168, R209);
`raise` is a port write and nothing else (R205). The FCB has no return operation (R210). -/

namespace Sys2Proof.Machine

/-- What an operation answers. -/
abbrev Result := Host.Outcome State Fault Refusal

/-- Go on with `k` where the first part answers a next state. -/
def andThen (r : Result) (k : State → Result) : Result :=
  match r with
  | .next s => k s
  | .fault f => .fault f
  | .refused f => .refused f

/-- `sr_mode <- m`. -/
def State.setMode (s : State) (m : SrMode) : State :=
  { s with nxt := { s.nxt with srMode := m } }

/-- `sr_pre <- v`. -/
def State.setPre (s : State) (v : Bool) : State :=
  { s with nxt := { s.nxt with srPre := v } }

/-- `sr_acc <- a`. -/
def State.setAcc (s : State) (a : List Byte) : State :=
  { s with nxt := { s.nxt with srAcc := a } }

/-- `sr_rep <- q`. -/
def State.setRep (s : State) (q : List Byte) : State :=
  { s with nxt := { s.nxt with srRep := q } }

/-- Write the pending-command slot. -/
def State.setCc (s : State) (p : Option Pending) : State :=
  { s with nxt := { s.nxt with cc := p } }

/-- Drive the request response (R76). -/
def State.setRq (s : State) (c : Option RqCode) : State :=
  { s with out := { s.out with rq := c } }

/-- Drive the completion record (R75). -/
def State.setCmp (s : State) (c : Option Completion) : State :=
  { s with out := { s.out with cmp := c } }

/-- Drive the frame output record (R77). -/
def State.setFo (s : State) (f : Option FrameOut) : State :=
  { s with out := { s.out with fo := f } }

/-- Record the examined byte (`ex` and `b` of R79). -/
def State.setExam (s : State) (b : Option Byte) : State :=
  { s with wires := { s.wires with exam := b } }

/-- Record the byte transferred from the source (R21). -/
def State.setTaken (s : State) (b : Option Byte) : State :=
  { s with wires := { s.wires with taken := b } }

/-- Record the frame SR hands to CC (R160). -/
def State.setFrame (s : State) (f : Option Frame) : State :=
  { s with wires := { s.wires with frame := f } }

/-- Record the ACK byte of the matching reply (R161). -/
def State.setAck (s : State) (k : Option Byte) : State :=
  { s with wires := { s.wires with ack := k } }

/-- Record the byte transferred to the sink (R22). -/
def State.setSent (s : State) (b : Option Byte) : State :=
  { s with wires := { s.wires with sent := b } }

/-- Record the result of a codec function (R27: no register, no port). -/
def State.setFc (s : State) (r : Option FcResult) : State :=
  { s with wires := { s.wires with fc := r } }

/-- `RepPop()` of R54: the head of `sr_rep`, and `sr_rep <- tail sr_rep`. -/
def repPop (s : State) : Except Fault (Byte × State) :=
  match s.regs.srRep with
  | b :: q => .ok (b, s.setRep q)
  | [] => .error .rescanQueueEmpty

/-- `AccAppend(b)` of R54. -/
def accAppend (s : State) (b : Byte) : State :=
  s.setAcc (s.regs.srAcc ++ [b])

/-- `AccClear()` of R54. -/
def accClear (s : State) : State :=
  s.setAcc []

/-- `RepPrepend(a)` of R54, onto `sr_rep` as any RepPop of the same cycle left it. -/
def repPrepend (s : State) (a : List Byte) : State :=
  s.setRep (a ++ s.nxt.srRep)

/-- `sr_mode <- SCAN; sr_pre <- 0; AccClear()`, how R125 and R126 leave a frame. -/
def backToScan (s : State) : State :=
  accClear ((s.setMode .scan).setPre false)

/-- Go on with the pending command; reading it while `cc_busy` is 0 faults (R33). -/
def withPending (s : State) (k : Pending → Result) : Result :=
  match s.regs.cc with
  | some p => k p
  | none => .fault .idleSlotRead

/-- `MemRead(TXBUF, i, 1)` of R55. -/
def memReadTx (p : Pending) (i : Nat) : Except Fault Byte :=
  match p.txf[i]? with
  | some b => .ok b
  | none => .error .txIndexOutOfRange

/-- `MemWrite(TXBUF, 0, n, w)` of R55 with the other writes of an acceptance (R152). -/
def loadSlot (s : State) (r : Request) (w : List Byte) : State :=
  s.setCc (some { desc := r.desc, timer := r.timeout, phase := .tx, txf := w, txi := 0 })

/-- `complete(cmp)` of R168: the one-cycle record, and `cc_busy <- 0`. -/
def complete (s : State) (status : CmpStatus) (code : Byte) (desc : Byte) : State :=
  (s.setCmp (some { status := status, code := code, desc := desc })).setCc none

/-- The completion with no ACK byte, of the pending command (R165, R166, R171). -/
def completePending (s : State) (status : CmpStatus) : Result :=
  withPending s fun p => .next (complete s status 0 p.desc)

/-- `rq_valid <- 1; rq_code <- c` (R150 to R152; `raise` of R205 where `c` is an error kind). -/
def raiseRq (s : State) (c : RqCode) : State :=
  s.setRq (some c)

/-- Every register at its reset value and every output inactive (R230, R231). -/
def resetAll (s : State) : State :=
  { s with nxt := .reset, out := .inactive, wires := {} }

end Sys2Proof.Machine
end

