-- ==== Sys2Proof/Machine/Correlator.lean ====
section
/-! DEFINITION. The Command Correlator's operations (42_correlator.md). -/

namespace Sys2Proof.Machine

/-- CC.REQ_ALREADY_PENDING (R150): the request is dropped whole. -/
def execReqAlreadyPending (s : State) : Result :=
  .next (raiseRq s .alreadyPending)

/-- CC.REQ_INVALID_ARGUMENT (R151): the slot stays free. -/
def execReqInvalidArgument (s : State) : Result :=
  .next (raiseRq s .invalidArgument)

/-- CC.REQ_ACCEPT (R152): the command becomes pending, its frame encoded in TXBUF. -/
def execReqAccept (s : State) : Result :=
  match s.inp.req with
  | none => .fault .strobeLow
  | some r =>
    match encodeFrame r.desc r.payload with
    | some w => .next (loadSlot (raiseRq s .accepted) r w)
    | none => .fault .payloadTooLong

/-- CC.REQ_NONE (R153): `rq_valid` is 0 and no register is written. -/
def execReqNone (s : State) : Result :=
  .next (s.setRq none)

/-- CC.CMP_OK (R162). -/
def execCmpOk (s : State) : Result :=
  completePending s .ok

/-- CC.CMP_COMMAND_ERROR (R162): the reply's ACK byte is the code. -/
def execCmpCommandError (s : State) : Result :=
  withPending s fun p =>
    match replyAck s with
    | some k => .next (complete s .commandError k p.desc)
    | none => .fault .noReply

/-- CC.CMP_RX_IO_ERROR (R165). -/
def execCmpRxIoError (s : State) : Result :=
  completePending s .ioError

/-- CC.CMP_TX_IO_ERROR (R166), the same record as R165's (R201). -/
def execCmpTxIoError (s : State) : Result :=
  completePending s .ioError

/-- CC.CMP_TIMEOUT (R171). -/
def execCmpTimeout (s : State) : Result :=
  completePending s .timeoutError

/-- CC.TICK (R170): `cc_timer <- cc_timer - 1`. -/
def execTick (s : State) : Result :=
  withPending s fun p =>
    .next (s.setCc (s.nxt.cc.map fun q => { q with timer := p.timer - 1 }))

/-- CC.HOLD (R172): the slot registers keep their values. -/
def execHold (s : State) : Result :=
  .next s

/-- CC.TX_BYTE (R156): the byte at `cc_txi` has gone to the sink; `cc_txi` advances, and the phase is
WAIT after the last byte, unless the command completes in this cycle. -/
def execTxByte (s : State) : Result :=
  withPending s fun p =>
    match memReadTx p p.txi with
    | .error f => .fault f
    | .ok b =>
      if completionDue s then .next (s.setSent (some b))
      else
        .next ((s.setSent (some b)).setCc (s.nxt.cc.map fun q =>
          { q with txi := p.txi + 1,
                   phase := if p.txi + 1 = p.txf.length then .wait else q.phase }))

/-- CC.TX_STALL (R157): no byte moves and `cc_txi` is unchanged. -/
def execTxStall (s : State) : Result :=
  .next (s.setSent none)

/-- CC.ROUTE_REPLY (R162): the ACK byte goes to the slot operation of the same cycle, and the frame is
not forwarded. -/
def execRouteReply (s : State) : Result :=
  match replyAck s with
  | some k => .next ((s.setAck (some k)).setFo none)
  | none => .fault .noReply

/-- CC.FORWARD_FRAME (R163). -/
def execForwardFrame (s : State) : Result :=
  match emitted s with
  | some f => .next (s.setFo (some (frameOut s f)))
  | none => .fault .noFrame

end Sys2Proof.Machine
end

