-- ==== Sys2Proof/Machine/FrameCodec.lean ====
section
/-! DEFINITION. The Frame Codec's operations as instructions (40_codec.md). FC has no state and no port
(R27): calling one writes nothing but the model's record of its result (notes/assumptions/8.md). -/

namespace Sys2Proof.Machine

/-- FC.CHECKSUM (R100). -/
def execFcChecksum (bytes : List Byte) (s : State) : Result :=
  .next (s.setFc (some (.checksum (checksum bytes))))

/-- FC.ENCODE (R102), `InvalidArgument` for a payload of more than 255 bytes. -/
def execFcEncode (d : Byte) (p : List Byte) (s : State) : Result :=
  match encodeFrame d p with
  | some w => .next (s.setFc (some (.encoded w)))
  | none => .next (s.setFc (some .invalidArgument))

/-- FC.VERIFY (R104). -/
def execFcVerify (w : List Byte) (s : State) : Result :=
  .next (s.setFc (some (.verified (verify w))))

/-- FC.DECODE (R105). -/
def execFcDecode (w : List Byte) (s : State) : Result :=
  .next (s.setFc (some (.decoded (decodeFrame w))))

end Sys2Proof.Machine
end

