-- ==== Sys2Proof/Machine/Reassembler.lean ====
section
/-! DEFINITION. The Stream Reassembler's operations (41_reassembler.md). -/

namespace Sys2Proof.Machine

/-- SR.SEL_REPLAY (R121): examine the oldest queued byte. -/
def execSelReplay (s : State) : Result :=
  match repPop s with
  | .ok (b, t) => .next (t.setExam (some b))
  | .error f => .fault f

/-- SR.SEL_INPUT (R121): examine `rx_data`, which is transferred (R21). -/
def execSelInput (s : State) : Result :=
  match s.inp.rx with
  | some b => .next ((s.setExam (some b)).setTaken (some b))
  | none => .fault .strobeLow

/-- SR.SEL_NONE (R121): nothing is examined, SR is unchanged. -/
def execSelNone (s : State) : Result :=
  .next (s.setExam none)

/-- SR.SCAN_SYNC2 (R122): the full sync marker opens a frame. -/
def execScanSync2 (s : State) : Result :=
  .next (accClear ((s.setMode .acc).setPre false))

/-- SR.SCAN_SYNC1 (R122): the sync prefix is matched. -/
def execScanSync1 (s : State) : Result :=
  .next (s.setPre true)

/-- SR.SCAN_OTHER (R122): no match, whatever the byte. -/
def execScanOther (_b : Byte) (s : State) : Result :=
  .next (s.setPre false)

/-- SR.ACC_APPEND (R123). -/
def execAccAppend (b : Byte) (s : State) : Result :=
  .next (accAppend s b)

/-- SR.ACC_EMIT (R125): hand the frame to CC and scan again. -/
def execAccEmit (b : Byte) (s : State) : Result :=
  match assembleFrame (s.regs.srAcc ++ [b]) with
  | some f => .next (backToScan (s.setFrame (some f)))
  | none => .fault .frameIncomplete

/-- SR.ACC_RESCAN (R126): queue the frame's bytes to be examined again, and scan. -/
def execAccRescan (b : Byte) (s : State) : Result :=
  .next (backToScan (repPrepend s (s.regs.srAcc ++ [b])))

end Sys2Proof.Machine
end

