-- ==== Sys2Proof/Machine/Resetting.lean ====
section
/-! DEFINITION. RESET (70_reset_and_hazards.md R230). -/

namespace Sys2Proof.Machine

/-- RESET (R230, R231): every register at its reset value, every output inactive. -/
def execReset (s : State) : Result :=
  .next (resetAll s)

end Sys2Proof.Machine
end

