-- ==== Sys2Proof/Machine/Dispatch.lean ====
section
/-! DEFINITION. The meaning of every operation of spec/opcode_table.json. -/

namespace Sys2Proof.Machine

def exec (i : Instr) (s : State) : Host.Outcome State Fault Refusal :=
  match i with
  | .fcChecksum bytes => Sys2Proof.Machine.execFcChecksum bytes s
  | .fcEncode d p => Sys2Proof.Machine.execFcEncode d p s
  | .fcVerify w => Sys2Proof.Machine.execFcVerify w s
  | .fcDecode w => Sys2Proof.Machine.execFcDecode w s
  | .selReplay => Sys2Proof.Machine.execSelReplay s
  | .selInput => Sys2Proof.Machine.execSelInput s
  | .selNone => Sys2Proof.Machine.execSelNone s
  | .scanSync2 => Sys2Proof.Machine.execScanSync2 s
  | .scanSync1 => Sys2Proof.Machine.execScanSync1 s
  | .scanOther b => Sys2Proof.Machine.execScanOther b s
  | .accAppend b => Sys2Proof.Machine.execAccAppend b s
  | .accEmit b => Sys2Proof.Machine.execAccEmit b s
  | .accRescan b => Sys2Proof.Machine.execAccRescan b s
  | .reqAlreadyPending => Sys2Proof.Machine.execReqAlreadyPending s
  | .reqInvalidArgument => Sys2Proof.Machine.execReqInvalidArgument s
  | .reqAccept => Sys2Proof.Machine.execReqAccept s
  | .reqNone => Sys2Proof.Machine.execReqNone s
  | .cmpOk => Sys2Proof.Machine.execCmpOk s
  | .cmpCommandError => Sys2Proof.Machine.execCmpCommandError s
  | .cmpRxIoError => Sys2Proof.Machine.execCmpRxIoError s
  | .cmpTxIoError => Sys2Proof.Machine.execCmpTxIoError s
  | .cmpTimeout => Sys2Proof.Machine.execCmpTimeout s
  | .tick => Sys2Proof.Machine.execTick s
  | .hold => Sys2Proof.Machine.execHold s
  | .txByte => Sys2Proof.Machine.execTxByte s
  | .txStall => Sys2Proof.Machine.execTxStall s
  | .routeReply => Sys2Proof.Machine.execRouteReply s
  | .forwardFrame => Sys2Proof.Machine.execForwardFrame s
  | .reset => Sys2Proof.Machine.execReset s

end Sys2Proof.Machine
end

