-- ==== Sys2Proof/Machine/Cycle.lean ====
section
/-! DEFINITION. What a cycle does around its operations (43_cycle.md R190): the outputs that depend on
S alone, the operations SEL selects, the end of the cycle; and how a selection word is staged as the
next cycle's. -/

namespace Sys2Proof.Machine

/-- The start of a cycle (R190): S' is a copy of S, no internal signal is set, and the outputs are those
that depend on S alone, every other one inactive. -/
def beginCycle (s : State) : Result :=
  match txOffer s with
  | .error f => .fault f
  | .ok tx =>
    .next { s with
      nxt := s.regs
      wires := {}
      out := { Output.inactive with rxReady := rxReadyFlag s, busy := busyFlag s, tx := tx } }

/-- The operations one after another, each over what the ones before it wrote. -/
def runOps (ops : List Instr) (s : State) : Result :=
  match ops with
  | [] => .next s
  | i :: rest => andThen (exec i s) (runOps rest)

/-- The end of the cycle (R13, R62): S' becomes the state, and the environment moves on. -/
def endCycle (s : State) : State :=
  { s with regs := s.nxt, ports := s.ports.tail, cycle := s.cycle + 1 }

/-- One clock cycle: the operations that the selection word of S and the inputs selects (R80), in the
order of R190. -/
def runCycle (s : State) : Result :=
  andThen (beginCycle s) fun t =>
    match decode (selWord s) with
    | .ok ops => andThen (runOps ops t) fun u => .next (endCycle u)
    | .error _ => .refused .reservedSelection

/-- The bytes SR must hold in ACC for the byte `b` to complete a frame: with a valid checksum, a
frame of one payload byte chosen so that B is `b`; else a frame of no payload with a wrong A. -/
def stagedAcc (valid : Bool) (b : Byte) : List Byte :=
  let p : Byte := b - (5 * Config.sync1 + 4 * Config.sync2 + 2)
  if valid then [0, 1, p, Config.sync1 + Config.sync2 + 1 + p] else [0, 0, 0]

/-- The frame that `stagedAcc true b` and `b` complete. -/
def stagedFrame (b : Byte) : Frame :=
  { desc := 0, payload := [b - (5 * Config.sync1 + 4 * Config.sync2 + 2)] }

/-- Stage a selection word as the next cycle's (notes/assumptions/7.md): the strobes of its CYC field,
and the registers, request record and reply table that give its other conditions, where a condition
brings in those it is defined from (R79: `rm` needs `fe`, `fe` needs `fc` and `ckok`, `fc` needs `ex`
and ACC, and the CC conditions need `busy`). -/
def stageSelection (s : State) (w : Sel) : State :=
  let b := selByte w
  let reply := selBit w 16 || selBit w 17
  let frame := reply || selBit w 15 || selBit w 14
  let full := frame || selBit w 13
  let exam := full || selBit w 7
  let busy := reply || selBit w 11 || selBit w 12 || selBit w 19
  let queued := selBit w 8 || (exam && selBit w 2)
  let regs : Regs :=
    { srMode := if full || selBit w 9 then .acc else .scan
      srPre := selBit w 10
      srAcc := if full then stagedAcc frame b else []
      srRep := if queued then [b] else []
      cc := if busy then
          some { desc := 0
                 timer := if selBit w 19 then 1 else 2
                 phase := if reply || selBit w 12 then .wait else .tx
                 txf := [Config.sync1, Config.sync2, 0, 0, 0xDA, 0x03]
                 txi := if reply || selBit w 12 then 6 else 0 }
        else none }
  let input : CycleIn :=
    { rst := selBit w 0
      rx := if selBit w 1 || (exam && !queued) then some b else none
      rxErr := selBit w 2
      txReady := selBit w 3
      txErr := selBit w 4
      req := if selBit w 5 || selBit w 18 then
          some { desc := 0, payload := List.replicate (if selBit w 18 then 256 else 0) 0, timeout := 2 }
        else none
      tick := selBit w 6 }
  let entry : ReplyEntry :=
    { desc := 0, frame := stagedFrame b,
      ack := if selBit w 17 then some 0 else if reply then some 1 else none }
  { s with
    regs := regs
    nxt := regs
    ports := input :: s.ports.tail
    cfg := if frame then { s.cfg with replies := entry :: s.cfg.replies } else s.cfg }

end Sys2Proof.Machine
end

