-- ==== Sys2Proof/Machine/Step.lean ====
section
/-! DEFINITION. One step of the machine is one clock cycle (00_scope.md R7, 43_cycle.md R190). -/

namespace Sys2Proof.Machine

/-- One clock cycle. -/
def step (s : State) : Host.Outcome State Fault Refusal :=
  runCycle s

/-- `s` with the inputs, registers and reply table under which its next cycle selects by the word
whose low `nbits` bits are `w` (notes/assumptions/7.md). -/
def State.withFetchWord (s : State) (nbits w : Nat) : State :=
  stageSelection s (BitVec.ofNat 32 (w % 2 ^ nbits))

end Sys2Proof.Machine
end

