-- ==== Sys2Proof/Machine/Reference.lean ====
section
/-! DEFINITION. The cycle step as R190 writes it, one function of S and the inputs, beside which the
machine's step over selected operations is held. The machine does not call it. -/

namespace Sys2Proof.Machine

/-- SR's part of S less the queue: the `st` of R134. -/
structure SrState where
  mode : SrMode
  pre  : Bool
  acc  : List Byte
deriving DecidableEq, Repr

/-- What one examined byte does: the new state, the emitted frame, and the bytes to be examined again. -/
structure SrAct where
  st      : SrState
  out     : Option Frame
  requeue : List Byte
deriving DecidableEq, Repr

/-- `act(st, x)` of R134, the SR action of R190. -/
def srAct (st : SrState) (x : Byte) : SrAct :=
  match st.mode with
  | .scan =>
    if st.pre = true ∧ x = 0x65 then ⟨⟨.acc, false, []⟩, none, []⟩
    else if x = 0x75 then ⟨⟨.scan, true, st.acc⟩, none, []⟩
    else ⟨⟨.scan, false, st.acc⟩, none, []⟩
  | .acc =>
    let a := st.acc ++ [x]
    if 4 ≤ a.length ∧ a.length = (a.getD 1 0).toNat + 4 then
      if verify ([0x75, 0x65] ++ a) then
        ⟨⟨.scan, false, []⟩, some ⟨a.getD 0 0, (a.drop 2).take (a.length - 4)⟩, []⟩
      else ⟨⟨.scan, false, []⟩, none, a⟩
    else ⟨⟨.acc, st.pre, a⟩, none, []⟩

/-- The SR registers of S other than the queue. -/
def Regs.sr (r : Regs) : SrState :=
  ⟨r.srMode, r.srPre, r.srAcc⟩

/-- The SR half of R190: the examined byte, the emitted frame, the SR registers of S'. -/
structure SrHalf where
  exam  : Option Byte
  taken : Option Byte
  frame : Option Frame
  st    : SrState
  rep   : List Byte
deriving DecidableEq, Repr

/-- The registers and the frame after one examined byte, over the queue as the selection left it. -/
def srHalfOf (st : SrState) (x : Byte) (taken : Option Byte) (q : List Byte) : SrHalf :=
  ⟨some x, taken, (srAct st x).out, (srAct st x).st, (srAct st x).requeue ++ q⟩

/-- SR byte selection and action of R190. -/
def refSr (r : Regs) (i : CycleIn) : SrHalf :=
  match r.srRep with
  | b :: q => srHalfOf r.sr b none q
  | [] =>
    match i.rxErr, i.rx with
    | false, some b => srHalfOf r.sr b (some b) []
    | _, _ => ⟨none, none, none, r.sr, []⟩

/-- `k` of R190's routing. -/
def refAck (reply : Byte → Frame → Option Byte) (r : Regs) (f : Option Frame) : Option Byte :=
  match f, r.cc with
  | some f, some p => if p.phase = .wait then reply p.desc f else none
  | _, _ => none

/-- `c` of R190's slot block for the pending command `p`. -/
def refCompletion (p : Pending) (i : CycleIn) (k : Option Byte) : Option Completion :=
  if k = some 0 then some ⟨.ok, 0, p.desc⟩
  else
    match k with
    | some j => some ⟨.commandError, j, p.desc⟩
    | none =>
      if i.rxErr then some ⟨.ioError, 0, p.desc⟩
      else if i.txErr ∧ p.phase = .tx then some ⟨.ioError, 0, p.desc⟩
      else if i.tick ∧ p.timer.toNat ≤ 1 then some ⟨.timeoutError, 0, p.desc⟩
      else none

/-- The slot of S' when the command does not complete: the tick, and the transmitted byte. -/
def refPending (p : Pending) (i : CycleIn) : Pending :=
  let xfer := p.phase = .tx ∧ i.txReady = true ∧ i.txErr = false
  { p with
    timer := if i.tick then p.timer - 1 else p.timer
    txi := if xfer then p.txi + 1 else p.txi
    phase := if xfer ∧ p.txi + 1 = p.txf.length then .wait else p.phase }

/-- The request block of R190, against S: the response, and the slot of S' if it was free. -/
def refRequest (r : Regs) (i : CycleIn) : Option RqCode × Option Pending :=
  match i.req with
  | none => (none, none)
  | some q =>
    if r.cc.isSome then (some .alreadyPending, none)
    else
      match encodeFrame q.desc q.payload with
      | none => (some .invalidArgument, none)
      | some w => (some .accepted, some ⟨q.desc, q.timeout, .tx, w, 0⟩)

/-- The slot of S' (R190's slot and request blocks). -/
def refSlot (r : Regs) (i : CycleIn) (k : Option Byte) : Option Pending :=
  match r.cc with
  | none => (refRequest r i).2
  | some p => if (refCompletion p i k).isSome then none else some (refPending p i)

/-- `tx_data` of R190; none where the read of R55 would be out of range. -/
def refTx (r : Regs) : Option (Option Byte) :=
  match r.cc with
  | none => some none
  | some p => if p.phase = .tx then p.txf[p.txi]?.map some else some none

/-- `step(S, I)` of R190, for the parameters `CFG_REPLY` and `CFG_CLASS`; none where R55's read would
be out of range, which R32 excludes. -/
def refCycle (reply : Byte → Frame → Option Byte) (cls : Byte → FrameClass) (r : Regs) (i : CycleIn) :
    Option (Regs × Output) :=
  if i.rst then some (.reset, .inactive)
  else
    match refTx r with
    | none => none
    | some tx =>
      let h := refSr r i
      let k := refAck reply r h.frame
      some
        ({ srMode := h.st.mode, srPre := h.st.pre, srAcc := h.st.acc, srRep := h.rep,
           cc := refSlot r i k },
         { rxReady := r.srRep.isEmpty
           busy := r.cc.isSome
           tx := tx
           rq := (refRequest r i).1
           cmp := r.cc.bind fun p => refCompletion p i k
           fo := match h.frame, k with
             | some f, none =>
               some ⟨f.desc, BitVec.ofNat 8 f.payload.length, f.payload, cls f.desc⟩
             | _, _ => none })

end Sys2Proof.Machine
end

