-- ==== Sys2Proof/Machine/Stimulus.lean ====
section
/-! DEFINITION. The stimulus notation of R87 and R88: how a line of cycle inputs is written, and the
held source of FEED. -/

namespace Sys2Proof.Machine

/-- The items of a line (R87). -/
inductive StimItem where
  /-- `RST`. -/
  | rst
  /-- `RX bb`. -/
  | rx (b : Byte)
  /-- `RXERR`. -/
  | rxErr
  /-- `TXR`. -/
  | txr
  /-- `TXERR`. -/
  | txErr
  /-- `TICK`. -/
  | tick
  /-- `REQ dd,[p...],T`. -/
  | req (d : Byte) (p : List Byte) (t : U32)
deriving DecidableEq, Repr

/-- What an item sets in its cycle's inputs. -/
def StimItem.apply (i : StimItem) (c : CycleIn) : CycleIn :=
  match i with
  | .rst => { c with rst := true }
  | .rx b => { c with rx := some b }
  | .rxErr => { c with rxErr := true }
  | .txr => { c with txReady := true }
  | .txErr => { c with txErr := true }
  | .tick => { c with tick := true }
  | .req d p t => { c with req := some { desc := d, payload := p, timeout := t } }

/-- A line: its items joined, all in one cycle; the empty list is the line `-`. -/
def stimLine (items : List StimItem) : CycleIn :=
  items.foldl (fun c i => i.apply c) {}

/-- `SEND dd,[p...],T` of R88: the request line, then `6 + n` lines of `TXR`. -/
def stimSend (d : Byte) (p : List Byte) (t : U32) : List CycleIn :=
  stimLine [.req d p t, .txr] :: List.replicate (Config.frameOverhead + p.length) (stimLine [.txr])

/-- `IDLE n` of R88. -/
def stimIdle (n : Nat) : List CycleIn :=
  List.replicate n (stimLine [])

/-- `FEED` of R88 for at most `n` cycles: a held source offers the head of the list in every cycle until
it is transferred, and then the next byte. Answers the state and the bytes not yet transferred. -/
def stimFeed (n : Nat) (bytes : List Byte) (s : State) : Host.Outcome (State × List Byte) Fault Refusal :=
  match n, bytes with
  | 0, bs => .next (s, bs)
  | _ + 1, [] => .next (s, [])
  | k + 1, b :: bs =>
    match step { s with ports := [stimLine [.rx b]] } with
    | .next t => stimFeed k (if t.wires.taken.isSome then bs else b :: bs) t
    | .fault f => .fault f
    | .refused r => .refused r

end Sys2Proof.Machine
end

