-- ==== Sys2Proof/Safety.lean ====
section
/-! DEFINITION. The terms in which the claims speak of a good state and of a run: the invariants of R29
and R32, the stream-level run of R134, and the inputs and completions of the coming cycles. -/

namespace Sys2Proof.Machine

/-- The SR invariants of R29. -/
def SrInvariant (r : Regs) : Prop :=
  (r.srMode = .scan → r.srAcc = [])
  ∧ (r.srMode = .acc → r.srPre = false)
  ∧ (r.srMode = .acc → ∀ d l rest, r.srAcc = d :: l :: rest → r.srAcc.length < l.toNat + 4)
  ∧ r.srAcc.length + r.srRep.length ≤ Config.rxbufBytes

/-- The CC invariants of R32. -/
def CcInvariant (r : Regs) : Prop :=
  ∀ p, r.cc = some p →
    (p.phase = .tx → p.txi < p.txf.length)
    ∧ (p.phase = .wait → p.txi = p.txf.length)
    ∧ Config.frameOverhead ≤ p.txf.length ∧ p.txf.length ≤ Config.txbufBytes
    ∧ ∃ q, encodeFrame p.desc q = some p.txf

/-- R29 and R32, which hold in every reachable state. -/
def Invariant (s : State) : Prop :=
  SrInvariant s.regs ∧ CcInvariant s.regs

/-- `run(q, st)` of R134 as a relation: from the work queue `q` and the SR state, these frames are
emitted in order and this SR state is reached. -/
inductive SrRun : List Byte → SrState → List Frame → SrState → Prop where
  | done (st : SrState) : SrRun [] st [] st
  | examine (b : Byte) (q : List Byte) (st st' : SrState) (fs : List Frame)
      (rest : SrRun ((srAct st b).requeue ++ q) (srAct st b).st fs st') :
      SrRun (b :: q) st ((srAct st b).out.toList ++ fs) st'

/-- SR's state after reset (R39). -/
def srReset : SrState := ⟨.scan, false, []⟩

/-- The inputs of the cycle `k` cycles from now. -/
def inputAt (s : State) (k : Nat) : CycleIn :=
  s.ports[k]?.getD (Config.environment (s.cycle + k))

/-- How many of the next `n` cycles have `tick` = 1. -/
def ticksWithin (n : Nat) (s : State) : Nat :=
  ((List.range n).filter fun k => (inputAt s k).tick).length

/-- A completion is reported in one of the next `n` cycles, each of which answers a next state. -/
def completesWithin : Nat → State → Prop
  | 0, _ => False
  | n + 1, s => ∃ t, step s = .next t ∧ (t.out.cmp.isSome = true ∨ completesWithin n t)

/-- In each of the next `n` cycles, none of them a reset, `rx_ready` is 0: the input stalls. -/
def stallsFor : Nat → State → Prop
  | 0, _ => True
  | n + 1, s => ∃ t, step s = .next t ∧ s.inp.rst = false ∧ t.out.rxReady = false ∧ stallsFor n t

/-- `rx_ready` is 0 for the next `n` cycles, and the rescan queue is empty after them, unless one of them
queues bytes again (SR.ACC_RESCAN, R126). -/
def drainsIn : Nat → State → Prop
  | 0, s => s.regs.srRep = []
  | n + 1, s => ∃ t, step s = .next t ∧ t.out.rxReady = false
      ∧ (t.regs.srRep = s.regs.srRep.tail → drainsIn n t)

/-- `rx_ready` is 1 in one of the next `n` cycles, each of which answers a next state. -/
def readyWithin : Nat → State → Prop
  | 0, _ => False
  | n + 1, s => ∃ t, step s = .next t ∧ (t.out.rxReady = true ∨ readyWithin n t)

end Sys2Proof.Machine
end

