-- ==== Sys2Proof/Certificates/Slice0/Obligations.lean ====
section
/-! DEFINITION. The statements for the provers. Each is a proposition over the machine's own
definitions; a statement about a step holds for every state, or under the invariants of R29 and R32
where it says so. `{ s with … }` names everything an operation writes, so what it does not name is the
operation's frame. -/

open Sys2Proof Sys2Proof.Machine

/-! ## Encoding -/

/-- R80: the word written for an operation selects that operation in its group. -/
def Obligations.EncodeThenDecodeGivesTheOperation : Prop :=
  ∀ (i : Instr) (g : Group), i.wellFormed = true → i.group = some g →
    ∃ w, encode i = [w] ∧ reservedClear w = true ∧ decodeGroup g w = some i

/-- R80: whatever a word selects in a group is an operation of that group that the word may select. -/
def Obligations.DecodedOperationIsWellFormedAndOfItsGroup : Prop :=
  ∀ (g : Group) (w : Sel) (i : Instr), decodeGroup g w = some i →
    i.wellFormed = true ∧ i.group = some g

/-- R79: bits 23:20 are reserved and 0; the decoder refuses exactly the words that have one of them set
(that it refuses them is the model's choice, notes/assumptions/13.md). -/
def Obligations.DecodeRefusesExactlyReservedBits : Prop :=
  ∀ w : Sel, decode w = .error .reservedBits ↔
    selBit w 20 = true ∨ selBit w 21 = true ∨ selBit w 22 = true ∨ selBit w 23 = true

/-- Words written out from spec/opcode_table.json stand for their rows' operations. R80 selects up to six
operations by such a word (0x00000808 selects CC.HOLD, SR.SEL_NONE and CC.REQ_NONE beside CC.TX_BYTE);
which one of them `decodeTableWord` names is the model's choice (notes/assumptions/6.md). -/
def Obligations.WrittenOutWordsDecodeToTheirRows : Prop :=
  decodeTableWord 32 0x65000480 = some .scanSync2
  ∧ decodeTableWord 32 0xAA002280 = some (.accRescan 0xAA)
  ∧ decodeTableWord 32 0x00040020 = some .reqInvalidArgument
  ∧ decodeTableWord 32 0x00030800 = some .cmpOk
  ∧ decodeTableWord 32 0x00000808 = some .txByte
  ∧ decodeTableWord 32 0x00018000 = some .routeReply
  ∧ decodeTableWord 32 0x00000100 = some .selReplay
  ∧ decodeTableWord 32 0x00000001 = some .reset

/-- R80 in terms of the state and the inputs: the operation of each of the six groups. -/
def Obligations.SelectionFollowsStateAndInputs : Prop :=
  ∀ s : State, s.inp.rst = false →
    decodeGroup .srSelect (selWord s) = some
      (if s.regs.srRep ≠ [] then .selReplay
       else if s.inp.rx.isSome = true ∧ s.inp.rxErr = false then .selInput else .selNone)
    ∧ decodeGroup .srAction (selWord s) =
      (examined s).map (fun b =>
        if s.regs.srMode = .scan then
          if s.regs.srPre = true ∧ b = 0x65 then .scanSync2
          else if b = 0x75 then .scanSync1 else .scanOther b
        else if frameComplete (s.regs.srAcc ++ [b]) = false then .accAppend b
        else if candidateVerifies (s.regs.srAcc ++ [b]) = true then .accEmit b else .accRescan b)
    ∧ decodeGroup .ccRoute (selWord s) =
      (emitted s).map (fun _ => if (replyAck s).isSome = true then .routeReply else .forwardFrame)
    ∧ decodeGroup .ccSlot (selWord s) =
      s.regs.cc.map (fun p =>
        if replyAck s = some 0 then .cmpOk
        else if (replyAck s).isSome = true then .cmpCommandError
        else if s.inp.rxErr = true then .cmpRxIoError
        else if p.phase = .tx ∧ s.inp.txErr = true then .cmpTxIoError
        else if s.inp.tick = true ∧ p.timer.toNat ≤ 1 then .cmpTimeout
        else if s.inp.tick = true then .tick else .hold)
    ∧ decodeGroup .ccTransmit (selWord s) =
      s.regs.cc.bind (fun p =>
        if p.phase = .tx then
          some (if s.inp.txReady = true ∧ s.inp.txErr = false then .txByte else .txStall)
        else none)
    ∧ decodeGroup .ccRequest (selWord s) = some
      (match s.inp.req with
       | none => .reqNone
       | some r =>
         if s.regs.cc.isSome = true then .reqAlreadyPending
         else if 255 < r.payload.length then .reqInvalidArgument else .reqAccept)

/-- R80, R230: with `rst` = 1 RESET replaces every other operation. -/
def Obligations.ResetIsSelectedAlone : Prop :=
  ∀ s : State, s.inp.rst = true → decode (selWord s) = .ok [.reset]

/-! ## The cycle -/

/-- A step runs the decoded operations (R80, R190). Three clauses are the model's: the two copies of the
registers, its form of R13 (notes/assumptions/1.md); how the inputs move on, `ports` and `cycle`
(notes/assumptions/2.md); and that the step faults where `tx_data` cannot be read, which R55 says cannot
occur (notes/assumptions/10.md). A step starts the cycle (S' a copy of S, the outputs that depend on
S alone, no internal signal), runs `exec` of each selected operation in order, and ends the cycle (S'
becomes S, the inputs move on). The selection word of a state always decodes. -/
def Obligations.StepRunsTheSelectedOperations : Prop :=
  (∀ s : State, ∃ ops, decode (selWord s) = .ok ops)
  ∧ (∀ (s : State) (ops : List Instr) (tx : Option Byte),
      decode (selWord s) = .ok ops → txOffer s = .ok tx →
      step s = andThen
        (runOps ops { s with
          nxt := s.regs
          wires := {}
          out := { rxReady := rxReadyFlag s, busy := busyFlag s, tx := tx } })
        (fun u => .next { u with regs := u.nxt, ports := u.ports.tail, cycle := u.cycle + 1 }))
  ∧ (∀ (s : State) (f : Fault), txOffer s = .error f → step s = .fault f)
  ∧ (∀ u : State, runOps [] u = .next u)
  ∧ (∀ (i : Instr) (rest : List Instr) (u : State),
      runOps (i :: rest) u = andThen (exec i u) (runOps rest))

/-- R190: the step over selected operations is the cycle step of R190, written as one function. Three
clauses are the model's: that the step faults where R190's read of `cc_txf` would be out of range, which
R55 says cannot occur (notes/assumptions/10.md); that S' stands in `nxt` too
(notes/assumptions/1.md); and how the inputs move on, `ports` and `cycle` (notes/assumptions/2.md). -/
def Obligations.StepIsTheCycleStepOfTheSpec : Prop :=
  ∀ s : State,
    match refCycle s.cfgReply s.cfgClass s.regs s.inp with
    | some (r, o) =>
      ∃ t, step s = .next t ∧ t.regs = r ∧ t.out = o ∧ t.nxt = r ∧ t.cfg = s.cfg
        ∧ t.ports = s.ports.tail ∧ t.cycle = s.cycle + 1
    | none => step s = .fault .txIndexOutOfRange

/-- R192: from every state that satisfies R29 and R32, under every input, a step answers a next state,
which satisfies them again. -/
def Obligations.StepIsTotalAndKeepsTheInvariants : Prop :=
  ∀ s : State, Invariant s → ∃ t, step s = .next t ∧ Invariant t

/-- R29 and R32 hold of the state after reset, with room in RXBUF to spare. -/
def Obligations.ResetStateSatisfiesTheInvariants : Prop :=
  Invariant State.reset

/-- R39, R232: the registers' values after reset and at power-on; that the CC registers without a value
are absent is the model's reading of R33 (notes/assumptions/4.md). -/
def Obligations.ResetStateIsAsTheSpecStates : Prop :=
  State.reset.regs.srMode = .scan ∧ State.reset.regs.srPre = false
  ∧ State.reset.regs.srAcc = [] ∧ State.reset.regs.srRep = []
  ∧ State.reset.regs.cc = none

/-- R230, R231, R233, R234: a cycle with `rst` = 1, in any state and under any other input, leaves the
reset registers and drives every output inactive; no completion is reported for a pending command. -/
def Obligations.ResetCycleResetsEverything : Prop :=
  ∀ s : State, s.inp.rst = true →
    ∃ t, step s = .next t
      ∧ t.regs = { srMode := .scan, srPre := false, srAcc := [], srRep := [], cc := none }
      ∧ t.out = { rxReady := false, busy := false, tx := none, rq := none, cmp := none, fo := none }
      ∧ t.wires.taken = none ∧ t.cfg = s.cfg

/-- R231, second half: in a first cycle after reset the outputs follow from the reset state. -/
def Obligations.FirstCycleAfterResetIsReady : Prop :=
  ∀ s : State, s.regs = State.reset.regs → s.inp.rst = false →
    ∃ t, step s = .next t ∧ t.out.rxReady = true ∧ t.out.busy = false ∧ t.out.tx = none
      ∧ t.out.cmp = none ∧ t.out.fo = none ∧ (s.inp.req = none → t.out.rq = none)

/-- R37: no step changes the configuration, and no operation does. -/
def Obligations.ConfigurationIsFixed : Prop :=
  (∀ s t : State, step s = .next t → t.cfg = s.cfg)
  ∧ ∀ (i : Instr) (s t : State), exec i s = .next t → t.cfg = s.cfg

/-- R34, R13: an operation writes only registers of its own unit, and writes S' only: S, the inputs and
the configuration stay; the codec's functions write no register and no output (R27). -/
def Obligations.OperationsWriteTheirOwnUnitOnly : Prop :=
  ∀ (i : Instr) (s t : State), exec i s = .next t →
    t.regs = s.regs ∧ t.ports = s.ports ∧ t.cycle = s.cycle
    ∧ (i.group = none → t.nxt = s.nxt ∧ t.out = s.out)
    ∧ (i.group = some .srSelect ∨ i.group = some .srAction → t.nxt.cc = s.nxt.cc ∧ t.out = s.out)
    ∧ (i.group = some .ccRoute ∨ i.group = some .ccSlot ∨ i.group = some .ccTransmit
        ∨ i.group = some .ccRequest →
        t.nxt.srMode = s.nxt.srMode ∧ t.nxt.srPre = s.nxt.srPre
        ∧ t.nxt.srAcc = s.nxt.srAcc ∧ t.nxt.srRep = s.nxt.srRep)

/-! ## Frame Codec -/

/-- R100, R102, R104, R105, R27: a codec function answers in every state, and writes nothing but the
model's record of its result (that there is such a record is the model's choice, notes/assumptions/8.md). -/
def Obligations.CodecFunctionsAnswerInEveryState : Prop :=
  ∀ s : State,
    (∀ x, exec (.fcChecksum x) s =
      .next { s with wires := { s.wires with fc := some (.checksum (checksum x)) } })
    ∧ (∀ d p w, encodeFrame d p = some w → exec (.fcEncode d p) s =
      .next { s with wires := { s.wires with fc := some (.encoded w) } })
    ∧ (∀ d p, 255 < p.length → exec (.fcEncode d p) s =
      .next { s with wires := { s.wires with fc := some .invalidArgument } })
    ∧ (∀ w, exec (.fcVerify w) s =
      .next { s with wires := { s.wires with fc := some (.verified (verify w)) } })
    ∧ (∀ w, exec (.fcDecode w) s =
      .next { s with wires := { s.wires with fc := some (.decoded (decodeFrame w)) } })

/-- R100: the two accumulators start at 0, each byte is added to A modulo 256, then A to B modulo 256,
and the result is `(A << 8) | B`. -/
def Obligations.ChecksumFollowsTheAccumulators : Prop :=
  (ckAccum []).a = 0 ∧ (ckAccum []).b = 0
  ∧ (∀ (s : List Byte) (x : Byte),
      (ckAccum (s ++ [x])).a.toNat = ((ckAccum s).a.toNat + x.toNat) % 256
      ∧ (ckAccum (s ++ [x])).b.toNat
          = ((ckAccum s).b.toNat + (ckAccum (s ++ [x])).a.toNat) % 256)
  ∧ ∀ s : List Byte, (checksum s).toNat = (ckAccum s).a.toNat * 256 + (ckAccum s).b.toNat

/-- R101: the closed forms of A and B, and what a change of one byte does to them. -/
def Obligations.ChecksumClosedForms : Prop :=
  ∀ s : List Byte,
    (ckAccum s).a.toNat = (∑ i ∈ Finset.range s.length, (s.getD i 0).toNat) % 256
    ∧ (ckAccum s).b.toNat
        = (∑ i ∈ Finset.range s.length, (s.length - i) * (s.getD i 0).toNat) % 256
    ∧ ∀ (i : Nat) (x δ : Byte), s[i]? = some x →
        (ckAccum (s.set i (x + δ))).a = (ckAccum s).a + δ
        ∧ (ckAccum (s.set i (x + δ))).b = (ckAccum s).b + BitVec.ofNat 8 (s.length - i) * δ

/-- R102, R103, R70: the layout of an encoded frame; a longer payload does not encode. -/
def Obligations.EncodedFrameHasTheWireLayout : Prop :=
  ∀ (d : Byte) (p : List Byte),
    (255 < p.length → encodeFrame d p = none)
    ∧ (p.length ≤ 255 → ∃ w, encodeFrame d p = some w
        ∧ w.length = 6 + p.length
        ∧ w[0]? = some 0x75 ∧ w[1]? = some 0x65 ∧ w[2]? = some d
        ∧ (w[3]?).map BitVec.toNat = some p.length
        ∧ (w.drop 4).take p.length = p
        ∧ w.drop (4 + p.length) =
            [hiByte (checksum (w.take (4 + p.length))), loByte (checksum (w.take (4 + p.length)))])

/-- R106: every frame the encoder makes verifies and decodes to what was encoded. -/
def Obligations.EncodedFrameVerifiesAndDecodes : Prop :=
  ∀ (d : Byte) (p : List Byte), p.length ≤ 255 →
    ∃ w, encodeFrame d p = some w ∧ verify w = true
      ∧ decodeFrame w = some { desc := d, payload := p }

/-- R105: what decodes is a frame with the sync marker, the exact length and a valid checksum. -/
def Obligations.DecodedFrameIsStructurallySound : Prop :=
  ∀ (w : List Byte) (f : Frame), decodeFrame w = some f ↔
    6 ≤ w.length ∧ w[0]? = some 0x75 ∧ w[1]? = some 0x65
    ∧ (w[3]?).map (fun l => 6 + l.toNat) = some w.length ∧ verify w = true
    ∧ w[2]? = some f.desc ∧ f.payload = (w.drop 4).take (w.length - 6)

/-- R107: a frame with exactly one byte changed does not verify. -/
def Obligations.SingleByteErrorIsDetected : Prop :=
  ∀ (d : Byte) (p w : List Byte) (i : Nat) (x : Byte),
    encodeFrame d p = some w → i < w.length → w[i]? ≠ some x → verify (w.set i x) = false

/-- R108: a change of `+δ` at one byte and `−δ` at a later one leaves the checksum as it was exactly
when the distance times δ is a multiple of 256. -/
def Obligations.OppositeErrorsPassExactlyByDistance : Prop :=
  ∀ (s : List Byte) (i j : Nat) (a b δ : Byte), i < j → s[i]? = some a → s[j]? = some b →
    (checksum ((s.set i (a + δ)).set j (b - δ)) = checksum s ↔ ((j - i) * δ.toNat) % 256 = 0)

/-! ## Stream Reassembler: the operations -/

/-- R121: the byte selection. Replay takes the head of the queue of S and leaves the tail in S'; the
input byte is examined and taken; no selection examines nothing. That replay of an empty queue stops with
this fault is the model's choice for R54's requirement (notes/assumptions/5.md). -/
def Obligations.SelectionOperationsAnswer : Prop :=
  ∀ s : State,
    (∀ b q, s.regs.srRep = b :: q → exec .selReplay s =
      .next { s with nxt := { s.nxt with srRep := q }, wires := { s.wires with exam := some b } })
    ∧ (s.regs.srRep = [] → exec .selReplay s = .fault .rescanQueueEmpty)
    ∧ (∀ b, s.inp.rx = some b → exec .selInput s =
      .next { s with wires := { s.wires with exam := some b, taken := some b } })
    ∧ exec .selNone s = .next { s with wires := { s.wires with exam := none } }

/-- R122: the three SCAN actions. -/
def Obligations.ScanOperationsAnswer : Prop :=
  ∀ s : State,
    exec .scanSync2 s =
      .next { s with nxt := { s.nxt with srMode := .acc, srPre := false, srAcc := [] } }
    ∧ exec .scanSync1 s = .next { s with nxt := { s.nxt with srPre := true } }
    ∧ ∀ b, exec (.scanOther b) s = .next { s with nxt := { s.nxt with srPre := false } }

/-- R123, R125, R126: append, emit a complete frame, and queue a rejected one in front of what the
queue still holds. -/
def Obligations.AccumulateOperationsAnswer : Prop :=
  ∀ (s : State) (b : Byte),
    exec (.accAppend b) s = .next { s with nxt := { s.nxt with srAcc := s.regs.srAcc ++ [b] } }
    ∧ (∀ d l rest, s.regs.srAcc ++ [b] = d :: l :: rest → rest.length = l.toNat + 2 →
        exec (.accEmit b) s =
          .next { s with
            nxt := { s.nxt with srMode := .scan, srPre := false, srAcc := [] }
            wires := { s.wires with frame := some { desc := d, payload := rest.take l.toNat } } })
    ∧ exec (.accRescan b) s =
        .next { s with nxt := { s.nxt with
          srMode := .scan, srPre := false, srAcc := [],
          srRep := (s.regs.srAcc ++ [b]) ++ s.nxt.srRep } }

/-! ## Stream Reassembler: the cycle -/

/-- R121, R21: which byte a cycle examines, and when the source's byte is transferred. -/
def Obligations.CycleExaminesTheSelectedByte : Prop :=
  ∀ s t : State, step s = .next t →
    t.wires.exam =
      (if s.inp.rst = true then none
       else if s.regs.srRep ≠ [] then s.regs.srRep.head?
       else if s.inp.rxErr = true then none else s.inp.rx)
    ∧ ∀ b, t.wires.taken = some b ↔
        s.inp.rx = some b ∧ t.out.rxReady = true ∧ s.inp.rxErr = false ∧ s.inp.rst = false

/-- R120: `rx_ready` is 1 exactly when the rescan queue of S is empty and there is no reset; while the
queue holds bytes, SR takes no input. -/
def Obligations.InputReadyExactlyWithEmptyQueue : Prop :=
  ∀ s t : State, step s = .next t →
    (t.out.rxReady = true ↔ s.regs.srRep = [] ∧ s.inp.rst = false)
    ∧ (s.regs.srRep ≠ [] → t.wires.taken = none)

/-- R130: a cycle without reset that examines no byte leaves every SR register as it was. -/
def Obligations.IdleCycleLeavesReassemblerUnchanged : Prop :=
  ∀ s t : State, step s = .next t → s.inp.rst = false → t.wires.exam = none →
    t.regs.srMode = s.regs.srMode ∧ t.regs.srPre = s.regs.srPre
    ∧ t.regs.srAcc = s.regs.srAcc ∧ t.regs.srRep = s.regs.srRep
    ∧ t.wires.frame = none

/-- R122: a full sync marker opens a frame; a 0x75 keeps or starts the prefix; any other byte drops it. -/
def Obligations.ScanningCycleTracksTheSyncMarker : Prop :=
  ∀ (s t : State) (b : Byte), step s = .next t → s.regs.srMode = .scan → t.wires.exam = some b →
    t.wires.frame = none
    ∧ (s.regs.srPre = true ∧ b = 0x65 →
        t.regs.srMode = .acc ∧ t.regs.srPre = false ∧ t.regs.srAcc = [])
    ∧ (¬ (s.regs.srPre = true ∧ b = 0x65) →
        t.regs.srMode = .scan ∧ t.regs.srAcc = s.regs.srAcc
        ∧ (t.regs.srPre = true ↔ b = 0x75))

/-- R124, R125, R128: a frame is emitted only from ACC, in the cycle of its last byte, and only when the
sync marker and the gathered bytes decode to it, checksum included. -/
def Obligations.OnlyValidFramesAreEmitted : Prop :=
  ∀ (s t : State) (f : Frame), step s = .next t → t.wires.frame = some f →
    ∃ b, t.wires.exam = some b ∧ s.regs.srMode = .acc
      ∧ decodeFrame ([0x75, 0x65] ++ s.regs.srAcc ++ [b]) = some f
      ∧ t.regs.srMode = .scan ∧ t.regs.srPre = false ∧ t.regs.srAcc = []

/-- R126, R203: a complete frame with a wrong checksum is not emitted; its bytes, and after them the rest
of the queue, are what SR examines next. -/
def Obligations.RejectedFrameIsRescanned : Prop :=
  ∀ (s t : State) (b d l : Byte) (rest : List Byte), step s = .next t → t.wires.exam = some b →
    s.regs.srMode = .acc → s.regs.srAcc ++ [b] = d :: l :: rest → rest.length = l.toNat + 2 →
    verify ([0x75, 0x65] ++ s.regs.srAcc ++ [b]) = false →
    t.wires.frame = none ∧ t.out.fo = none
    ∧ t.regs.srMode = .scan ∧ t.regs.srPre = false ∧ t.regs.srAcc = []
    ∧ t.regs.srRep = (s.regs.srAcc ++ [b]) ++ s.regs.srRep.tail

/-- R132: while the queue holds bytes a cycle without reset takes its head, takes no input, and never
makes the bytes held more. -/
def Obligations.RescanQueueMakesProgress : Prop :=
  ∀ (s t : State) (b : Byte) (q : List Byte), step s = .next t → s.inp.rst = false →
    s.regs.srRep = b :: q →
    t.wires.exam = some b ∧ t.wires.taken = none ∧ t.out.rxReady = false
    ∧ t.regs.srAcc.length + t.regs.srRep.length ≤ s.regs.srAcc.length + s.regs.srRep.length

/-- A rescan can stall the input for more than 259 cycles in a row: a false frame that lies whole inside
the rejected bytes is queued and examined again. R121 and R126 give this; the bound of 259 cycles that
R132, R241 and C4 state in prose does not hold for it (notes/assumptions/17.md). -/
def Obligations.NestedRescanStallsBeyondTheStatedBound : Prop :=
  ∃ s : State, Invariant s ∧ s.regs.srMode = .scan ∧ s.regs.srRep.length = 259 ∧ stallsFor 260 s

/-- R34, R135: what SR does depends on its own registers, `rst` and the byte transferred alone: not on
CC, and on `rx_err` only in that it stops the transfer. -/
def Obligations.ReassemblerDependsOnItsInputsOnly : Prop :=
  ∀ s s' t t' : State, step s = .next t → step s' = .next t' →
    s.regs.srMode = s'.regs.srMode → s.regs.srPre = s'.regs.srPre →
    s.regs.srAcc = s'.regs.srAcc → s.regs.srRep = s'.regs.srRep →
    s.inp.rst = s'.inp.rst → t.wires.taken = t'.wires.taken →
    t.regs.srMode = t'.regs.srMode ∧ t.regs.srPre = t'.regs.srPre
    ∧ t.regs.srAcc = t'.regs.srAcc ∧ t.regs.srRep = t'.regs.srRep
    ∧ t.wires.frame = t'.wires.frame ∧ t.wires.exam = t'.wires.exam

/-- R134: the machine's cycles compute the stream-level run. Whatever the rest `q` of the stream yields
from the state after a cycle, the queue of the state before it, the byte the cycle took and `q` yield
from there, with the frame the cycle emitted in front. -/
def Obligations.CyclesComputeTheStreamRun : Prop :=
  ∀ (s t : State) (q : List Byte) (fs : List Frame) (st : SrState),
    step s = .next t → s.inp.rst = false →
    SrRun (t.regs.srRep ++ q) t.regs.sr fs st →
    SrRun (s.regs.srRep ++ t.wires.taken.toList ++ q) s.regs.sr (t.wires.frame.toList ++ fs) st

/-- R134: the stream-level run ends on every queue from every SR state, with one result. -/
def Obligations.StreamRunEndsWithOneResult : Prop :=
  ∀ (q : List Byte) (st : SrState), ∃ fs st', SrRun q st fs st'
    ∧ ∀ gs st'', SrRun q st gs st'' → gs = fs ∧ st'' = st'

/-- R131: from reset, a valid frame with one extra byte before its sync marker emits exactly that frame. -/
def Obligations.ExtraByteBeforeAFrameIsHarmless : Prop :=
  ∀ (x d : Byte) (p : List Byte), p.length ≤ 255 →
    ∃ w, encodeFrame d p = some w
      ∧ SrRun (x :: w) srReset [{ desc := d, payload := p }] srReset

/-! ## Command Correlator: the operations -/

/-- R150 to R153: the request operations. -/
def Obligations.RequestOperationsAnswer : Prop :=
  ∀ s : State,
    exec .reqAlreadyPending s = .next { s with out := { s.out with rq := some .alreadyPending } }
    ∧ exec .reqInvalidArgument s = .next { s with out := { s.out with rq := some .invalidArgument } }
    ∧ exec .reqNone s = .next { s with out := { s.out with rq := none } }
    ∧ ∀ r, s.inp.req = some r → r.payload.length ≤ 255 →
        ∃ w, encodeFrame r.desc r.payload = some w
          ∧ exec .reqAccept s = .next { s with
              out := { s.out with rq := some .accepted }
              nxt := { s.nxt with
                cc := some { desc := r.desc, timer := r.timeout, phase := .tx, txf := w, txi := 0 } } }

/-- R156, R157: the transmit operations. A byte that goes in a completion cycle has gone, but moves
nothing on. -/
def Obligations.TransmitOperationsAnswer : Prop :=
  ∀ s : State,
    exec .txStall s = .next { s with wires := { s.wires with sent := none } }
    ∧ ∀ p b, s.regs.cc = some p → p.txf[p.txi]? = some b →
        (completionDue s = true →
          exec .txByte s = .next { s with wires := { s.wires with sent := some b } })
        ∧ (completionDue s = false →
          exec .txByte s = .next { s with
            wires := { s.wires with sent := some b }
            nxt := { s.nxt with cc := s.nxt.cc.map fun q =>
              { q with txi := p.txi + 1,
                       phase := if p.txi + 1 = p.txf.length then .wait else q.phase } } })

/-- R162, R163: routing the frame SR emits in the cycle. -/
def Obligations.RouteOperationsAnswer : Prop :=
  ∀ (s : State) (f : Frame), emitted s = some f →
    exec .forwardFrame s = .next { s with out := { s.out with
      fo := some { desc := f.desc, len := BitVec.ofNat 8 f.payload.length, payload := f.payload,
                   cls := s.cfgClass f.desc } } }
    ∧ ∀ p k, s.regs.cc = some p → p.phase = .wait → s.cfgReply p.desc f = some k →
        exec .routeReply s = .next { s with
          wires := { s.wires with ack := some k }, out := { s.out with fo := none } }

/-- R162, R165, R166, R168, R171: the completions. Each drives its record, with the descriptor of the
pending command, and frees the slot. -/
def Obligations.CompletionOperationsAnswer : Prop :=
  ∀ (s : State) (p : Pending), s.regs.cc = some p →
    exec .cmpOk s = .next { s with
      nxt := { s.nxt with cc := none }, out := { s.out with cmp := some ⟨.ok, 0, p.desc⟩ } }
    ∧ (∀ k, replyAck s = some k → exec .cmpCommandError s = .next { s with
        nxt := { s.nxt with cc := none }
        out := { s.out with cmp := some ⟨.commandError, k, p.desc⟩ } })
    ∧ exec .cmpRxIoError s = .next { s with
        nxt := { s.nxt with cc := none }, out := { s.out with cmp := some ⟨.ioError, 0, p.desc⟩ } }
    ∧ exec .cmpTxIoError s = .next { s with
        nxt := { s.nxt with cc := none }, out := { s.out with cmp := some ⟨.ioError, 0, p.desc⟩ } }
    ∧ exec .cmpTimeout s = .next { s with
        nxt := { s.nxt with cc := none }
        out := { s.out with cmp := some ⟨.timeoutError, 0, p.desc⟩ } }

/-- R170, R172: the tick counts the timer of S down by one and writes nothing else; the hold writes
nothing. R170 selects the tick with a timer of 2 or more (and R171 the timeout below that); that the
operation run with the timer 0 wraps to 2^32 - 1 is the model's choice (notes/assumptions/5.md). -/
def Obligations.TickAndHoldAnswer : Prop :=
  ∀ s : State, exec .hold s = .next s
    ∧ ∀ p q, s.regs.cc = some p → s.nxt.cc = some q →
        exec .tick s = .next { s with
          nxt := { s.nxt with cc := some { q with timer := p.timer - 1 } } }

/-- R230, R231: RESET in any state. -/
def Obligations.ResetOperationAnswers : Prop :=
  ∀ s : State, exec .reset s = .next { s with
    nxt := { srMode := .scan, srPre := false, srAcc := [], srRep := [], cc := none }
    out := { rxReady := false, busy := false, tx := none, rq := none, cmp := none, fo := none }
    wires := {} }

/-- R33: an operation that reads a CC register while no command is pending faults (the faults' names, and
what an operation does outside its selection, are the model's: notes/assumptions/5.md). -/
def Obligations.IdleSlotIsNeverRead : Prop :=
  ∀ s : State, s.regs.cc = none →
    exec .cmpOk s = .fault .idleSlotRead ∧ exec .cmpCommandError s = .fault .idleSlotRead
    ∧ exec .cmpRxIoError s = .fault .idleSlotRead ∧ exec .cmpTxIoError s = .fault .idleSlotRead
    ∧ exec .cmpTimeout s = .fault .idleSlotRead ∧ exec .tick s = .fault .idleSlotRead
    ∧ exec .txByte s = .fault .idleSlotRead ∧ exec .routeReply s = .fault .noReply

/-! ## Command Correlator: the cycle -/

/-- R36, R155: the status outputs are functions of S, held inactive in a reset cycle. -/
def Obligations.StatusOutputsShowTheStartState : Prop :=
  ∀ s t : State, step s = .next t →
    (t.out.busy = true ↔ s.regs.cc.isSome = true ∧ s.inp.rst = false)
    ∧ ∀ b, t.out.tx = some b ↔
        s.inp.rst = false ∧ ∃ p, s.regs.cc = some p ∧ p.phase = .tx ∧ p.txf[p.txi]? = some b

/-- R23, R150 to R153, R207, R240: how a request is answered, in its own cycle and against S: also in
the cycle in which the pending command completes. -/
def Obligations.RequestIsAnsweredAgainstTheStartState : Prop :=
  ∀ s t : State, step s = .next t →
    t.out.rq =
      (if s.inp.rst = true then none
       else s.inp.req.map fun r =>
         if s.regs.cc.isSome = true then .alreadyPending
         else if 255 < r.payload.length then .invalidArgument else .accepted)

/-- R152, R67: a cycle in which the slot was free leaves it holding the accepted command, its frame
encoded and its timer loaded, and leaves it free otherwise. -/
def Obligations.FreeSlotTakesTheAcceptedCommand : Prop :=
  ∀ s t : State, step s = .next t → s.regs.cc = none →
    t.out.cmp = none ∧ t.wires.sent = none
    ∧ t.regs.cc =
      (if s.inp.rst = true then none
       else s.inp.req.bind fun r => (encodeFrame r.desc r.payload).map fun w =>
         { desc := r.desc, timer := r.timeout, phase := .tx, txf := w, txi := 0 })

/-- R167, R206: which completion a cycle reports, in the order reply, `rx_err`, `tx_err` in TX,
deadline; and none while no command is pending. -/
def Obligations.CompletionFollowsThePriority : Prop :=
  ∀ s t : State, step s = .next t → s.inp.rst = false →
    t.out.cmp = s.regs.cc.bind fun p =>
      match replyAck s with
      | some k => some ⟨if k = 0 then .ok else .commandError, k, p.desc⟩
      | none =>
        if s.inp.rxErr = true then some ⟨.ioError, 0, p.desc⟩
        else if s.inp.txErr = true ∧ p.phase = .tx then some ⟨.ioError, 0, p.desc⟩
        else if s.inp.tick = true ∧ p.timer.toNat ≤ 1 then some ⟨.timeoutError, 0, p.desc⟩
        else none

/-- R168, R176: without a reset, the slot is freed in exactly the cycles that report a completion; until
then the command's descriptor and frame stay. -/
def Obligations.SlotIsFreedExactlyByCompletion : Prop :=
  ∀ (s t : State) (p : Pending), step s = .next t → s.inp.rst = false → s.regs.cc = some p →
    (t.regs.cc = none ↔ t.out.cmp.isSome = true)
    ∧ ∀ q, t.regs.cc = some q → q.desc = p.desc ∧ q.txf = p.txf

/-- R170, R171: with no reply and no transport error, a tick that finds the timer at 2 or more counts it
down by one, and a tick that finds it at 1 or 0 completes the command with TIMEOUT_ERROR. Without a tick
the timer stays. -/
def Obligations.DeadlineCountsTicks : Prop :=
  ∀ (s t : State) (p : Pending), step s = .next t → s.inp.rst = false → s.regs.cc = some p →
    replyAck s = none → s.inp.rxErr = false → (s.inp.txErr = false ∨ p.phase = .wait) →
    (s.inp.tick = true → 2 ≤ p.timer.toNat →
      ∃ q, t.regs.cc = some q ∧ q.timer.toNat + 1 = p.timer.toNat ∧ t.out.cmp = none)
    ∧ (s.inp.tick = true → p.timer.toNat ≤ 1 →
      t.regs.cc = none ∧ t.out.cmp = some ⟨.timeoutError, 0, p.desc⟩)
    ∧ (s.inp.tick = false → ∃ q, t.regs.cc = some q ∧ q.timer = p.timer ∧ t.out.cmp = none)

/-- R173: a pending command with timer 0 behaves exactly as with timer 1. -/
def Obligations.ZeroTimerBehavesLikeOne : Prop :=
  ∀ (s t : State) (p : Pending), s.regs.cc = some p → p.timer = 0 → step s = .next t →
    ∃ t', step { s with regs := { s.regs with cc := some { p with timer := 1 } } } = .next t'
      ∧ t'.out = t.out
      ∧ (t'.regs = t.regs
        ∨ ∃ q, t.regs.cc = some q ∧ q.timer = 0
            ∧ t'.regs = { t.regs with cc := some { q with timer := 1 } })

/-- R67, R171: a pending command completes at the latest at its `max(T, 1)`-th tick, unless a reset
intervenes. -/
def Obligations.PendingCommandCompletesByItsDeadline : Prop :=
  ∀ (n : Nat) (s : State) (p : Pending), Invariant s → s.regs.cc = some p →
    (∀ k, k < n → (inputAt s k).rst = false) → max p.timer.toNat 1 ≤ ticksWithin n s →
    completesWithin n s

/-- R22, R64, R156, R157: a byte moves to the sink exactly under the handshake; it is the byte at
`cc_txi`; and unless the command completes, `cc_txi` advances by one exactly when a byte moves, and the
phase is WAIT after the last byte. -/
def Obligations.TransmitSendsTheFrameInOrder : Prop :=
  ∀ (s t : State) (p : Pending), step s = .next t → s.inp.rst = false → s.regs.cc = some p →
    t.wires.sent =
      (if s.inp.txReady = true ∧ s.inp.txErr = false then t.out.tx else none)
    ∧ (∀ b, t.wires.sent = some b → p.phase = .tx ∧ p.txf[p.txi]? = some b)
    ∧ ∀ q, t.regs.cc = some q →
        (t.wires.sent.isSome = true →
          q.txi = p.txi + 1 ∧ (q.phase = .wait ↔ p.txi + 1 = p.txf.length))
        ∧ (t.wires.sent = none → q.txi = p.txi ∧ q.phase = p.phase)

/-- R163, R162, R25, R208: a frame goes to the frame output exactly when SR emits it and it is not the
matching reply; then the record is the frame's, with its class. -/
def Obligations.FrameIsForwardedUnlessItIsTheReply : Prop :=
  ∀ s t : State, step s = .next t →
    t.out.fo =
      match t.wires.frame, t.wires.ack with
      | some f, none =>
        some ⟨f.desc, BitVec.ofNat 8 f.payload.length, f.payload, s.cfgClass f.desc⟩
      | _, _ => none

/-- R161: a frame is the matching reply exactly when a command waits for one, fully sent at the start of
the cycle, and `CFG_REPLY` accepts it for the command's descriptor. -/
def Obligations.ReplyMatchesOnlyAWaitingCommand : Prop :=
  ∀ (s t : State) (k : Byte), step s = .next t →
    (t.wires.ack = some k ↔
      ∃ f p, t.wires.frame = some f ∧ s.regs.cc = some p ∧ p.phase = .wait
        ∧ s.cfgReply p.desc f = some k)

/-- R164, R245: a frame emitted while the command is still being sent is forwarded, whatever it is. -/
def Obligations.FrameDuringTransmitIsForwarded : Prop :=
  ∀ (s t : State) (p : Pending) (f : Frame), step s = .next t → s.regs.cc = some p →
    p.phase = .tx → t.wires.frame = some f → t.wires.ack = none ∧ t.out.fo.isSome = true

/-- R84, R210: with no command pending and no request, `rx_err`, `tx_err`, `tx_ready` and `tick` have no
effect on CC's slot and on its sink, request and completion ports: the slot stays free, nothing is sent,
answered or completed. The frame output is left aside: a frame that SR emits is forwarded (R163). -/
def Obligations.IdleCorrelatorIgnoresStrobes : Prop :=
  ∀ s t : State, step s = .next t → s.regs.cc = none → s.inp.req = none →
    t.regs.cc = none ∧ t.out.cmp = none ∧ t.out.rq = none ∧ t.out.tx = none
    ∧ t.out.busy = false ∧ t.wires.sent = none ∧ t.wires.ack = none

/-- R75, R76, R77, R84: the numeric codes of the ports, and that the reserved ones are never driven. -/
def Obligations.PortCodesAreTheSpecs : Prop :=
  RqCode.accepted.code = 0 ∧ RqCode.alreadyPending.code = 1 ∧ RqCode.invalidArgument.code = 2
  ∧ CmpStatus.ok.code = 0 ∧ CmpStatus.commandError.code = 1 ∧ CmpStatus.timeoutError.code = 2
  ∧ CmpStatus.ioError.code = 3
  ∧ foClassCode .imu = 0 ∧ foClassCode .filter = 1 ∧ foClassCode .other = 2
  ∧ (∀ c : RqCode, c.code ≠ 3) ∧ ∀ c : FrameClass, foClassCode c ≠ 3

/-! ## Stream Reassembler: the stall -/

/-- How long the input stalls (R132, R241). With `n` bytes queued, at most 259, `rx_ready` is 0 for `n`
cycles and the queue is empty after them, unless one of them queues bytes again. In every case the stall
ends: 33930 cycles without reset have one with `rx_ready` = 1. That number is of no rule: it is
T(T + 1)/2 + 259 + 1 for the 259 bytes that R129 lets SR hold, fewer by one with each byte that
the scan passes (notes/assumptions/17.md). -/
def Obligations.InputStallDrainsTheQueueAndEnds : Prop :=
  ∀ s : State, Invariant s →
    ((∀ k, k < s.regs.srRep.length → (inputAt s k).rst = false) →
      s.regs.srRep.length ≤ 259 ∧ drainsIn s.regs.srRep.length s)
    ∧ ((∀ k, k < 33930 → (inputAt s k).rst = false) → readyWithin 33930 s)
end

