-- ==== Sys2Proof/Laws/State.lean ====
section
/-! SUPPORT. The named updates of the state, field by field. -/

namespace Sys2Proof.Machine

@[simp] theorem setMode_regs (s : State) (m : SrMode) : (s.setMode m).regs = s.regs := rfl
@[simp] theorem setMode_nxt_srMode (s : State) (m : SrMode) : (s.setMode m).nxt.srMode = m := rfl
@[simp] theorem setMode_nxt_srPre (s : State) (m : SrMode) : (s.setMode m).nxt.srPre = s.nxt.srPre := rfl
@[simp] theorem setMode_nxt_srAcc (s : State) (m : SrMode) : (s.setMode m).nxt.srAcc = s.nxt.srAcc := rfl
@[simp] theorem setMode_nxt_srRep (s : State) (m : SrMode) : (s.setMode m).nxt.srRep = s.nxt.srRep := rfl
@[simp] theorem setMode_nxt_cc (s : State) (m : SrMode) : (s.setMode m).nxt.cc = s.nxt.cc := rfl
@[simp] theorem setMode_ports (s : State) (m : SrMode) : (s.setMode m).ports = s.ports := rfl
@[simp] theorem setMode_cycle (s : State) (m : SrMode) : (s.setMode m).cycle = s.cycle := rfl
@[simp] theorem setMode_out (s : State) (m : SrMode) : (s.setMode m).out = s.out := rfl
@[simp] theorem setMode_wires (s : State) (m : SrMode) : (s.setMode m).wires = s.wires := rfl
@[simp] theorem setMode_cfg (s : State) (m : SrMode) : (s.setMode m).cfg = s.cfg := rfl

@[simp] theorem setPre_regs (s : State) (v : Bool) : (s.setPre v).regs = s.regs := rfl
@[simp] theorem setPre_nxt_srMode (s : State) (v : Bool) : (s.setPre v).nxt.srMode = s.nxt.srMode := rfl
@[simp] theorem setPre_nxt_srPre (s : State) (v : Bool) : (s.setPre v).nxt.srPre = v := rfl
@[simp] theorem setPre_nxt_srAcc (s : State) (v : Bool) : (s.setPre v).nxt.srAcc = s.nxt.srAcc := rfl
@[simp] theorem setPre_nxt_srRep (s : State) (v : Bool) : (s.setPre v).nxt.srRep = s.nxt.srRep := rfl
@[simp] theorem setPre_nxt_cc (s : State) (v : Bool) : (s.setPre v).nxt.cc = s.nxt.cc := rfl
@[simp] theorem setPre_ports (s : State) (v : Bool) : (s.setPre v).ports = s.ports := rfl
@[simp] theorem setPre_cycle (s : State) (v : Bool) : (s.setPre v).cycle = s.cycle := rfl
@[simp] theorem setPre_out (s : State) (v : Bool) : (s.setPre v).out = s.out := rfl
@[simp] theorem setPre_wires (s : State) (v : Bool) : (s.setPre v).wires = s.wires := rfl
@[simp] theorem setPre_cfg (s : State) (v : Bool) : (s.setPre v).cfg = s.cfg := rfl

@[simp] theorem setAcc_regs (s : State) (a : List Byte) : (s.setAcc a).regs = s.regs := rfl
@[simp] theorem setAcc_nxt_srMode (s : State) (a : List Byte) : (s.setAcc a).nxt.srMode = s.nxt.srMode := rfl
@[simp] theorem setAcc_nxt_srPre (s : State) (a : List Byte) : (s.setAcc a).nxt.srPre = s.nxt.srPre := rfl
@[simp] theorem setAcc_nxt_srAcc (s : State) (a : List Byte) : (s.setAcc a).nxt.srAcc = a := rfl
@[simp] theorem setAcc_nxt_srRep (s : State) (a : List Byte) : (s.setAcc a).nxt.srRep = s.nxt.srRep := rfl
@[simp] theorem setAcc_nxt_cc (s : State) (a : List Byte) : (s.setAcc a).nxt.cc = s.nxt.cc := rfl
@[simp] theorem setAcc_ports (s : State) (a : List Byte) : (s.setAcc a).ports = s.ports := rfl
@[simp] theorem setAcc_cycle (s : State) (a : List Byte) : (s.setAcc a).cycle = s.cycle := rfl
@[simp] theorem setAcc_out (s : State) (a : List Byte) : (s.setAcc a).out = s.out := rfl
@[simp] theorem setAcc_wires (s : State) (a : List Byte) : (s.setAcc a).wires = s.wires := rfl
@[simp] theorem setAcc_cfg (s : State) (a : List Byte) : (s.setAcc a).cfg = s.cfg := rfl

@[simp] theorem setRep_regs (s : State) (q : List Byte) : (s.setRep q).regs = s.regs := rfl
@[simp] theorem setRep_nxt_srMode (s : State) (q : List Byte) : (s.setRep q).nxt.srMode = s.nxt.srMode := rfl
@[simp] theorem setRep_nxt_srPre (s : State) (q : List Byte) : (s.setRep q).nxt.srPre = s.nxt.srPre := rfl
@[simp] theorem setRep_nxt_srAcc (s : State) (q : List Byte) : (s.setRep q).nxt.srAcc = s.nxt.srAcc := rfl
@[simp] theorem setRep_nxt_srRep (s : State) (q : List Byte) : (s.setRep q).nxt.srRep = q := rfl
@[simp] theorem setRep_nxt_cc (s : State) (q : List Byte) : (s.setRep q).nxt.cc = s.nxt.cc := rfl
@[simp] theorem setRep_ports (s : State) (q : List Byte) : (s.setRep q).ports = s.ports := rfl
@[simp] theorem setRep_cycle (s : State) (q : List Byte) : (s.setRep q).cycle = s.cycle := rfl
@[simp] theorem setRep_out (s : State) (q : List Byte) : (s.setRep q).out = s.out := rfl
@[simp] theorem setRep_wires (s : State) (q : List Byte) : (s.setRep q).wires = s.wires := rfl
@[simp] theorem setRep_cfg (s : State) (q : List Byte) : (s.setRep q).cfg = s.cfg := rfl

@[simp] theorem setCc_regs (s : State) (p : Option Pending) : (s.setCc p).regs = s.regs := rfl
@[simp] theorem setCc_nxt_srMode (s : State) (p : Option Pending) : (s.setCc p).nxt.srMode = s.nxt.srMode := rfl
@[simp] theorem setCc_nxt_srPre (s : State) (p : Option Pending) : (s.setCc p).nxt.srPre = s.nxt.srPre := rfl
@[simp] theorem setCc_nxt_srAcc (s : State) (p : Option Pending) : (s.setCc p).nxt.srAcc = s.nxt.srAcc := rfl
@[simp] theorem setCc_nxt_srRep (s : State) (p : Option Pending) : (s.setCc p).nxt.srRep = s.nxt.srRep := rfl
@[simp] theorem setCc_nxt_cc (s : State) (p : Option Pending) : (s.setCc p).nxt.cc = p := rfl
@[simp] theorem setCc_ports (s : State) (p : Option Pending) : (s.setCc p).ports = s.ports := rfl
@[simp] theorem setCc_cycle (s : State) (p : Option Pending) : (s.setCc p).cycle = s.cycle := rfl
@[simp] theorem setCc_out (s : State) (p : Option Pending) : (s.setCc p).out = s.out := rfl
@[simp] theorem setCc_wires (s : State) (p : Option Pending) : (s.setCc p).wires = s.wires := rfl
@[simp] theorem setCc_cfg (s : State) (p : Option Pending) : (s.setCc p).cfg = s.cfg := rfl

@[simp] theorem setRq_regs (s : State) (c : Option RqCode) : (s.setRq c).regs = s.regs := rfl
@[simp] theorem setRq_nxt (s : State) (c : Option RqCode) : (s.setRq c).nxt = s.nxt := rfl
@[simp] theorem setRq_ports (s : State) (c : Option RqCode) : (s.setRq c).ports = s.ports := rfl
@[simp] theorem setRq_cycle (s : State) (c : Option RqCode) : (s.setRq c).cycle = s.cycle := rfl
@[simp] theorem setRq_out_rxReady (s : State) (c : Option RqCode) : (s.setRq c).out.rxReady = s.out.rxReady := rfl
@[simp] theorem setRq_out_busy (s : State) (c : Option RqCode) : (s.setRq c).out.busy = s.out.busy := rfl
@[simp] theorem setRq_out_tx (s : State) (c : Option RqCode) : (s.setRq c).out.tx = s.out.tx := rfl
@[simp] theorem setRq_out_rq (s : State) (c : Option RqCode) : (s.setRq c).out.rq = c := rfl
@[simp] theorem setRq_out_cmp (s : State) (c : Option RqCode) : (s.setRq c).out.cmp = s.out.cmp := rfl
@[simp] theorem setRq_out_fo (s : State) (c : Option RqCode) : (s.setRq c).out.fo = s.out.fo := rfl
@[simp] theorem setRq_wires (s : State) (c : Option RqCode) : (s.setRq c).wires = s.wires := rfl
@[simp] theorem setRq_cfg (s : State) (c : Option RqCode) : (s.setRq c).cfg = s.cfg := rfl

@[simp] theorem setCmp_regs (s : State) (c : Option Completion) : (s.setCmp c).regs = s.regs := rfl
@[simp] theorem setCmp_nxt (s : State) (c : Option Completion) : (s.setCmp c).nxt = s.nxt := rfl
@[simp] theorem setCmp_ports (s : State) (c : Option Completion) : (s.setCmp c).ports = s.ports := rfl
@[simp] theorem setCmp_cycle (s : State) (c : Option Completion) : (s.setCmp c).cycle = s.cycle := rfl
@[simp] theorem setCmp_out_rxReady (s : State) (c : Option Completion) : (s.setCmp c).out.rxReady = s.out.rxReady := rfl
@[simp] theorem setCmp_out_busy (s : State) (c : Option Completion) : (s.setCmp c).out.busy = s.out.busy := rfl
@[simp] theorem setCmp_out_tx (s : State) (c : Option Completion) : (s.setCmp c).out.tx = s.out.tx := rfl
@[simp] theorem setCmp_out_rq (s : State) (c : Option Completion) : (s.setCmp c).out.rq = s.out.rq := rfl
@[simp] theorem setCmp_out_cmp (s : State) (c : Option Completion) : (s.setCmp c).out.cmp = c := rfl
@[simp] theorem setCmp_out_fo (s : State) (c : Option Completion) : (s.setCmp c).out.fo = s.out.fo := rfl
@[simp] theorem setCmp_wires (s : State) (c : Option Completion) : (s.setCmp c).wires = s.wires := rfl
@[simp] theorem setCmp_cfg (s : State) (c : Option Completion) : (s.setCmp c).cfg = s.cfg := rfl

@[simp] theorem setFo_regs (s : State) (f : Option FrameOut) : (s.setFo f).regs = s.regs := rfl
@[simp] theorem setFo_nxt (s : State) (f : Option FrameOut) : (s.setFo f).nxt = s.nxt := rfl
@[simp] theorem setFo_ports (s : State) (f : Option FrameOut) : (s.setFo f).ports = s.ports := rfl
@[simp] theorem setFo_cycle (s : State) (f : Option FrameOut) : (s.setFo f).cycle = s.cycle := rfl
@[simp] theorem setFo_out_rxReady (s : State) (f : Option FrameOut) : (s.setFo f).out.rxReady = s.out.rxReady := rfl
@[simp] theorem setFo_out_busy (s : State) (f : Option FrameOut) : (s.setFo f).out.busy = s.out.busy := rfl
@[simp] theorem setFo_out_tx (s : State) (f : Option FrameOut) : (s.setFo f).out.tx = s.out.tx := rfl
@[simp] theorem setFo_out_rq (s : State) (f : Option FrameOut) : (s.setFo f).out.rq = s.out.rq := rfl
@[simp] theorem setFo_out_cmp (s : State) (f : Option FrameOut) : (s.setFo f).out.cmp = s.out.cmp := rfl
@[simp] theorem setFo_out_fo (s : State) (f : Option FrameOut) : (s.setFo f).out.fo = f := rfl
@[simp] theorem setFo_wires (s : State) (f : Option FrameOut) : (s.setFo f).wires = s.wires := rfl
@[simp] theorem setFo_cfg (s : State) (f : Option FrameOut) : (s.setFo f).cfg = s.cfg := rfl

@[simp] theorem setExam_regs (s : State) (b : Option Byte) : (s.setExam b).regs = s.regs := rfl
@[simp] theorem setExam_nxt (s : State) (b : Option Byte) : (s.setExam b).nxt = s.nxt := rfl
@[simp] theorem setExam_ports (s : State) (b : Option Byte) : (s.setExam b).ports = s.ports := rfl
@[simp] theorem setExam_cycle (s : State) (b : Option Byte) : (s.setExam b).cycle = s.cycle := rfl
@[simp] theorem setExam_out (s : State) (b : Option Byte) : (s.setExam b).out = s.out := rfl
@[simp] theorem setExam_wires_exam (s : State) (b : Option Byte) : (s.setExam b).wires.exam = b := rfl
@[simp] theorem setExam_wires_taken (s : State) (b : Option Byte) : (s.setExam b).wires.taken = s.wires.taken := rfl
@[simp] theorem setExam_wires_frame (s : State) (b : Option Byte) : (s.setExam b).wires.frame = s.wires.frame := rfl
@[simp] theorem setExam_wires_ack (s : State) (b : Option Byte) : (s.setExam b).wires.ack = s.wires.ack := rfl
@[simp] theorem setExam_wires_sent (s : State) (b : Option Byte) : (s.setExam b).wires.sent = s.wires.sent := rfl
@[simp] theorem setExam_wires_fc (s : State) (b : Option Byte) : (s.setExam b).wires.fc = s.wires.fc := rfl
@[simp] theorem setExam_cfg (s : State) (b : Option Byte) : (s.setExam b).cfg = s.cfg := rfl

@[simp] theorem setTaken_regs (s : State) (b : Option Byte) : (s.setTaken b).regs = s.regs := rfl
@[simp] theorem setTaken_nxt (s : State) (b : Option Byte) : (s.setTaken b).nxt = s.nxt := rfl
@[simp] theorem setTaken_ports (s : State) (b : Option Byte) : (s.setTaken b).ports = s.ports := rfl
@[simp] theorem setTaken_cycle (s : State) (b : Option Byte) : (s.setTaken b).cycle = s.cycle := rfl
@[simp] theorem setTaken_out (s : State) (b : Option Byte) : (s.setTaken b).out = s.out := rfl
@[simp] theorem setTaken_wires_exam (s : State) (b : Option Byte) : (s.setTaken b).wires.exam = s.wires.exam := rfl
@[simp] theorem setTaken_wires_taken (s : State) (b : Option Byte) : (s.setTaken b).wires.taken = b := rfl
@[simp] theorem setTaken_wires_frame (s : State) (b : Option Byte) : (s.setTaken b).wires.frame = s.wires.frame := rfl
@[simp] theorem setTaken_wires_ack (s : State) (b : Option Byte) : (s.setTaken b).wires.ack = s.wires.ack := rfl
@[simp] theorem setTaken_wires_sent (s : State) (b : Option Byte) : (s.setTaken b).wires.sent = s.wires.sent := rfl
@[simp] theorem setTaken_wires_fc (s : State) (b : Option Byte) : (s.setTaken b).wires.fc = s.wires.fc := rfl
@[simp] theorem setTaken_cfg (s : State) (b : Option Byte) : (s.setTaken b).cfg = s.cfg := rfl

@[simp] theorem setFrame_regs (s : State) (f : Option Frame) : (s.setFrame f).regs = s.regs := rfl
@[simp] theorem setFrame_nxt (s : State) (f : Option Frame) : (s.setFrame f).nxt = s.nxt := rfl
@[simp] theorem setFrame_ports (s : State) (f : Option Frame) : (s.setFrame f).ports = s.ports := rfl
@[simp] theorem setFrame_cycle (s : State) (f : Option Frame) : (s.setFrame f).cycle = s.cycle := rfl
@[simp] theorem setFrame_out (s : State) (f : Option Frame) : (s.setFrame f).out = s.out := rfl
@[simp] theorem setFrame_wires_exam (s : State) (f : Option Frame) : (s.setFrame f).wires.exam = s.wires.exam := rfl
@[simp] theorem setFrame_wires_taken (s : State) (f : Option Frame) : (s.setFrame f).wires.taken = s.wires.taken := rfl
@[simp] theorem setFrame_wires_frame (s : State) (f : Option Frame) : (s.setFrame f).wires.frame = f := rfl
@[simp] theorem setFrame_wires_ack (s : State) (f : Option Frame) : (s.setFrame f).wires.ack = s.wires.ack := rfl
@[simp] theorem setFrame_wires_sent (s : State) (f : Option Frame) : (s.setFrame f).wires.sent = s.wires.sent := rfl
@[simp] theorem setFrame_wires_fc (s : State) (f : Option Frame) : (s.setFrame f).wires.fc = s.wires.fc := rfl
@[simp] theorem setFrame_cfg (s : State) (f : Option Frame) : (s.setFrame f).cfg = s.cfg := rfl

@[simp] theorem setAck_regs (s : State) (k : Option Byte) : (s.setAck k).regs = s.regs := rfl
@[simp] theorem setAck_nxt (s : State) (k : Option Byte) : (s.setAck k).nxt = s.nxt := rfl
@[simp] theorem setAck_ports (s : State) (k : Option Byte) : (s.setAck k).ports = s.ports := rfl
@[simp] theorem setAck_cycle (s : State) (k : Option Byte) : (s.setAck k).cycle = s.cycle := rfl
@[simp] theorem setAck_out (s : State) (k : Option Byte) : (s.setAck k).out = s.out := rfl
@[simp] theorem setAck_wires_exam (s : State) (k : Option Byte) : (s.setAck k).wires.exam = s.wires.exam := rfl
@[simp] theorem setAck_wires_taken (s : State) (k : Option Byte) : (s.setAck k).wires.taken = s.wires.taken := rfl
@[simp] theorem setAck_wires_frame (s : State) (k : Option Byte) : (s.setAck k).wires.frame = s.wires.frame := rfl
@[simp] theorem setAck_wires_ack (s : State) (k : Option Byte) : (s.setAck k).wires.ack = k := rfl
@[simp] theorem setAck_wires_sent (s : State) (k : Option Byte) : (s.setAck k).wires.sent = s.wires.sent := rfl
@[simp] theorem setAck_wires_fc (s : State) (k : Option Byte) : (s.setAck k).wires.fc = s.wires.fc := rfl
@[simp] theorem setAck_cfg (s : State) (k : Option Byte) : (s.setAck k).cfg = s.cfg := rfl

@[simp] theorem setSent_regs (s : State) (b : Option Byte) : (s.setSent b).regs = s.regs := rfl
@[simp] theorem setSent_nxt (s : State) (b : Option Byte) : (s.setSent b).nxt = s.nxt := rfl
@[simp] theorem setSent_ports (s : State) (b : Option Byte) : (s.setSent b).ports = s.ports := rfl
@[simp] theorem setSent_cycle (s : State) (b : Option Byte) : (s.setSent b).cycle = s.cycle := rfl
@[simp] theorem setSent_out (s : State) (b : Option Byte) : (s.setSent b).out = s.out := rfl
@[simp] theorem setSent_wires_exam (s : State) (b : Option Byte) : (s.setSent b).wires.exam = s.wires.exam := rfl
@[simp] theorem setSent_wires_taken (s : State) (b : Option Byte) : (s.setSent b).wires.taken = s.wires.taken := rfl
@[simp] theorem setSent_wires_frame (s : State) (b : Option Byte) : (s.setSent b).wires.frame = s.wires.frame := rfl
@[simp] theorem setSent_wires_ack (s : State) (b : Option Byte) : (s.setSent b).wires.ack = s.wires.ack := rfl
@[simp] theorem setSent_wires_sent (s : State) (b : Option Byte) : (s.setSent b).wires.sent = b := rfl
@[simp] theorem setSent_wires_fc (s : State) (b : Option Byte) : (s.setSent b).wires.fc = s.wires.fc := rfl
@[simp] theorem setSent_cfg (s : State) (b : Option Byte) : (s.setSent b).cfg = s.cfg := rfl

@[simp] theorem setFc_regs (s : State) (r : Option FcResult) : (s.setFc r).regs = s.regs := rfl
@[simp] theorem setFc_nxt (s : State) (r : Option FcResult) : (s.setFc r).nxt = s.nxt := rfl
@[simp] theorem setFc_ports (s : State) (r : Option FcResult) : (s.setFc r).ports = s.ports := rfl
@[simp] theorem setFc_cycle (s : State) (r : Option FcResult) : (s.setFc r).cycle = s.cycle := rfl
@[simp] theorem setFc_out (s : State) (r : Option FcResult) : (s.setFc r).out = s.out := rfl
@[simp] theorem setFc_wires_exam (s : State) (r : Option FcResult) : (s.setFc r).wires.exam = s.wires.exam := rfl
@[simp] theorem setFc_wires_taken (s : State) (r : Option FcResult) : (s.setFc r).wires.taken = s.wires.taken := rfl
@[simp] theorem setFc_wires_frame (s : State) (r : Option FcResult) : (s.setFc r).wires.frame = s.wires.frame := rfl
@[simp] theorem setFc_wires_ack (s : State) (r : Option FcResult) : (s.setFc r).wires.ack = s.wires.ack := rfl
@[simp] theorem setFc_wires_sent (s : State) (r : Option FcResult) : (s.setFc r).wires.sent = s.wires.sent := rfl
@[simp] theorem setFc_wires_fc (s : State) (r : Option FcResult) : (s.setFc r).wires.fc = r := rfl
@[simp] theorem setFc_cfg (s : State) (r : Option FcResult) : (s.setFc r).cfg = s.cfg := rfl

@[simp] theorem endCycle_regs (s : State) : (endCycle s).regs = s.nxt := rfl
@[simp] theorem endCycle_nxt (s : State) : (endCycle s).nxt = s.nxt := rfl
@[simp] theorem endCycle_ports (s : State) : (endCycle s).ports = s.ports.tail := rfl
@[simp] theorem endCycle_cycle (s : State) : (endCycle s).cycle = s.cycle + 1 := rfl
@[simp] theorem endCycle_out (s : State) : (endCycle s).out = s.out := rfl
@[simp] theorem endCycle_wires (s : State) : (endCycle s).wires = s.wires := rfl
@[simp] theorem endCycle_cfg (s : State) : (endCycle s).cfg = s.cfg := rfl

end Sys2Proof.Machine
end

