-- ==== Sys2Proof/Laws/Codec.lean ====
section
/-! SUPPORT. The codec functions' small lemmas (R100 to R105). -/

namespace Sys2Proof.Machine

/-- One more byte is one more round (R100). -/
theorem ckAccum_snoc (s : List Byte) (x : Byte) : ckAccum (s ++ [x]) = ckRound (ckAccum s) x := by
  simp [ckAccum, List.foldl_append]

@[simp] theorem hiByte_beWord (a b : Byte) : hiByte (beWord a b) = a := by
  apply BitVec.eq_of_getLsbD_eq
  intro i hi
  have h : 8 + i < 16 := by omega
  simp [hiByte, beWord, hi, h]

@[simp] theorem loByte_beWord (a b : Byte) : loByte (beWord a b) = b := by
  apply BitVec.eq_of_getLsbD_eq
  intro i hi
  have h : i < 16 := by omega
  simp [loByte, beWord, hi, h]

/-- The two bytes of a big-endian word determine it (R73). -/
theorem beWord_inj {a b c d : Byte} : beWord a b = beWord c d ↔ a = c ∧ b = d := by
  constructor
  · intro h
    exact ⟨by simpa using congrArg hiByte h, by simpa using congrArg loByte h⟩
  · rintro ⟨rfl, rfl⟩; rfl

@[simp] theorem frameHead_length (d : Byte) (p : List Byte) :
    (frameHead d p).length = p.length + 4 := by
  simp [frameHead]

/-- A frame is its head and the two accumulators (R102). -/
theorem encodeFrame_eq (d : Byte) (p : List Byte) :
    encodeFrame d p = if p.length ≤ 255 then
      some (frameHead d p ++ [(ckAccum (frameHead d p)).a, (ckAccum (frameHead d p)).b]) else none := by
  simp [encodeFrame, checksum, Config.maxPayload]

/-- `verify` on a head and two checksum bytes (R104). -/
theorem verify_append (h : List Byte) (a b : Byte) (hl : 4 ≤ h.length) :
    verify (h ++ [a, b]) = ((ckAccum h).a == a && (ckAccum h).b == b) := by
  have h1 : ¬ (h.length + 2 < 6) := by omega
  have h2 : (h ++ [a, b]).length - 2 = h.length := by simp
  unfold verify
  rw [h2]
  simp only [List.length_append, List.length_cons, List.length_nil, Config.frameOverhead]
  rw [if_neg (by omega), List.drop_left, List.take_left]
  rw [Bool.eq_iff_iff]
  simp [checksum, beWord_inj]

/-- `decodeFrame` answers on a frame with four bytes or more exactly under R105's conditions. -/
theorem decodeFrame_cons (a b d l : Byte) (rest : List Byte) (f : Frame) :
    decodeFrame (a :: b :: d :: l :: rest) = some f ↔
      a = 0x75 ∧ b = 0x65 ∧ rest.length = l.toNat + 2 ∧ verify (a :: b :: d :: l :: rest) = true
      ∧ f = ⟨d, rest.take l.toNat⟩ := by
  unfold decodeFrame
  simp only
  split
  · rename_i hc
    obtain ⟨h1, h2, h3, h4⟩ := hc
    simp [Config.frameOverhead] at h3
    constructor
    · intro h; exact ⟨h1, h2, by omega, h4, by injection h with h; exact h.symm⟩
    · rintro ⟨-, -, -, -, rfl⟩; rfl
  · rename_i hc
    constructor
    · intro h; cases h
    · rintro ⟨h1, h2, h3, h4, -⟩
      exact absurd ⟨h1, h2, by simp [Config.frameOverhead]; omega, h4⟩ hc

/-- A frame of fewer than six bytes does not verify (R104). -/
theorem length_of_verify {w : List Byte} (h : verify w = true) : 6 ≤ w.length := by
  unfold verify at h
  split at h
  · cases h
  · simp [Config.frameOverhead] at *; omega

end Sys2Proof.Machine
end

