-- ==== Sys2Proof/Laws/Decode.lean ====
section
/-! SUPPORT. When each row of the opcode table applies, bit by bit, and what `decode` answers. -/

namespace Sys2Proof

/-- A row's match and mask, bit by bit. -/
theorem and_beq_bits (w m p : Sel) :
    ((w &&& m) == p) =
      (List.range 32).all fun i => (selBit w i && m.getLsbD i) == p.getLsbD i := by
  rw [Bool.eq_iff_iff, beq_iff_eq, List.all_eq_true]
  constructor
  · intro h i _; rw [← h]; simp [selBit]
  · intro h; apply BitVec.eq_of_getLsbD_eq; intro i hi
    simpa [selBit] using h i (List.mem_range.2 hi)

/-- The examined-byte field, bit by bit. -/
theorem selByte_beq_bits (w : Sel) (b : Byte) :
    (selByte w == b) = (List.range 8).all fun i => selBit w (24 + i) == b.getLsbD i := by
  rw [Bool.eq_iff_iff, beq_iff_eq, List.all_eq_true]
  constructor
  · intro h i hi; rw [← h]; simp [selByte, selBit, List.mem_range.1 hi]
  · intro h; apply BitVec.eq_of_getLsbD_eq; intro i hi
    simpa [selByte, selBit, hi] using h i (List.mem_range.2 hi)

theorem appliesSelReplay (w : Sel) (f : Byte → Instr) :
    (Row.mk 0x00000100 0x00000101 f).applies w = (!selBit w 0 && selBit w 8) := by
  rw [Row.applies, and_beq_bits]
  simp [List.range, List.range.loop]

theorem appliesSelInput (w : Sel) (f : Byte → Instr) :
    (Row.mk 0x00000002 0x00000107 f).applies w = (!selBit w 0 && selBit w 1 && !selBit w 2 && !selBit w 8) := by
  rw [Row.applies, and_beq_bits]
  simp [List.range, List.range.loop, Bool.and_assoc]

theorem appliesSelNone (w : Sel) (f : Byte → Instr) :
    (Row.mk 0x00000000 0x00000001 f).applies w = (!selBit w 0) := by
  rw [Row.applies, and_beq_bits]
  simp [List.range, List.range.loop]

theorem appliesScanSync2 (w : Sel) (f : Byte → Instr) :
    (Row.mk 0x65000480 0xFF000681 f).applies w = (!selBit w 0 && selBit w 7 && !selBit w 9 && selBit w 10 && selByte w == 0x65#8) := by
  rw [Row.applies, and_beq_bits]
  simp [List.range, List.range.loop, selByte_beq_bits, Bool.and_assoc]

theorem appliesScanSync1 (w : Sel) (f : Byte → Instr) :
    (Row.mk 0x75000080 0xFF000281 f).applies w = (!selBit w 0 && selBit w 7 && !selBit w 9 && selByte w == 0x75#8) := by
  rw [Row.applies, and_beq_bits]
  simp [List.range, List.range.loop, selByte_beq_bits, Bool.and_assoc]

theorem appliesScanOther (w : Sel) (f : Byte → Instr) :
    (Row.mk 0x00000080 0x00000281 f).applies w = (!selBit w 0 && selBit w 7 && !selBit w 9) := by
  rw [Row.applies, and_beq_bits]
  simp [List.range, List.range.loop, Bool.and_assoc]

theorem appliesAccAppend (w : Sel) (f : Byte → Instr) :
    (Row.mk 0x00000280 0x00002281 f).applies w = (!selBit w 0 && selBit w 7 && selBit w 9 && !selBit w 13) := by
  rw [Row.applies, and_beq_bits]
  simp [List.range, List.range.loop, Bool.and_assoc]

theorem appliesAccEmit (w : Sel) (f : Byte → Instr) :
    (Row.mk 0x00006280 0x00006281 f).applies w = (!selBit w 0 && selBit w 7 && selBit w 9 && selBit w 13 && selBit w 14) := by
  rw [Row.applies, and_beq_bits]
  simp [List.range, List.range.loop, Bool.and_assoc]

theorem appliesAccRescan (w : Sel) (f : Byte → Instr) :
    (Row.mk 0x00002280 0x00006281 f).applies w = (!selBit w 0 && selBit w 7 && selBit w 9 && selBit w 13 && !selBit w 14) := by
  rw [Row.applies, and_beq_bits]
  simp [List.range, List.range.loop, Bool.and_assoc]

theorem appliesRouteReply (w : Sel) (f : Byte → Instr) :
    (Row.mk 0x00018000 0x00018001 f).applies w = (!selBit w 0 && selBit w 15 && selBit w 16) := by
  rw [Row.applies, and_beq_bits]
  simp [List.range, List.range.loop, Bool.and_assoc]

theorem appliesForwardFrame (w : Sel) (f : Byte → Instr) :
    (Row.mk 0x00008000 0x00018001 f).applies w = (!selBit w 0 && selBit w 15 && !selBit w 16) := by
  rw [Row.applies, and_beq_bits]
  simp [List.range, List.range.loop, Bool.and_assoc]

theorem appliesCmpOk (w : Sel) (f : Byte → Instr) :
    (Row.mk 0x00030800 0x00030801 f).applies w = (!selBit w 0 && selBit w 11 && selBit w 16 && selBit w 17) := by
  rw [Row.applies, and_beq_bits]
  simp [List.range, List.range.loop, Bool.and_assoc]

theorem appliesCmpCommandError (w : Sel) (f : Byte → Instr) :
    (Row.mk 0x00010800 0x00030801 f).applies w = (!selBit w 0 && selBit w 11 && selBit w 16 && !selBit w 17) := by
  rw [Row.applies, and_beq_bits]
  simp [List.range, List.range.loop, Bool.and_assoc]

theorem appliesCmpRxIoError (w : Sel) (f : Byte → Instr) :
    (Row.mk 0x00000804 0x00000805 f).applies w = (!selBit w 0 && selBit w 2 && selBit w 11) := by
  rw [Row.applies, and_beq_bits]
  simp [List.range, List.range.loop, Bool.and_assoc]

theorem appliesCmpTxIoError (w : Sel) (f : Byte → Instr) :
    (Row.mk 0x00000810 0x00001811 f).applies w = (!selBit w 0 && selBit w 4 && selBit w 11 && !selBit w 12) := by
  rw [Row.applies, and_beq_bits]
  simp [List.range, List.range.loop, Bool.and_assoc]

theorem appliesCmpTimeout (w : Sel) (f : Byte → Instr) :
    (Row.mk 0x00080840 0x00080841 f).applies w = (!selBit w 0 && selBit w 6 && selBit w 11 && selBit w 19) := by
  rw [Row.applies, and_beq_bits]
  simp [List.range, List.range.loop, Bool.and_assoc]

theorem appliesTick (w : Sel) (f : Byte → Instr) :
    (Row.mk 0x00000840 0x00000841 f).applies w = (!selBit w 0 && selBit w 6 && selBit w 11) := by
  rw [Row.applies, and_beq_bits]
  simp [List.range, List.range.loop, Bool.and_assoc]

theorem appliesHold (w : Sel) (f : Byte → Instr) :
    (Row.mk 0x00000800 0x00000801 f).applies w = (!selBit w 0 && selBit w 11) := by
  rw [Row.applies, and_beq_bits]
  simp [List.range, List.range.loop]

theorem appliesTxByte (w : Sel) (f : Byte → Instr) :
    (Row.mk 0x00000808 0x00001819 f).applies w = (!selBit w 0 && selBit w 3 && !selBit w 4 && selBit w 11 && !selBit w 12) := by
  rw [Row.applies, and_beq_bits]
  simp [List.range, List.range.loop, Bool.and_assoc]

theorem appliesTxStall (w : Sel) (f : Byte → Instr) :
    (Row.mk 0x00000800 0x00001801 f).applies w = (!selBit w 0 && selBit w 11 && !selBit w 12) := by
  rw [Row.applies, and_beq_bits]
  simp [List.range, List.range.loop, Bool.and_assoc]

theorem appliesReqAlreadyPending (w : Sel) (f : Byte → Instr) :
    (Row.mk 0x00000820 0x00000821 f).applies w = (!selBit w 0 && selBit w 5 && selBit w 11) := by
  rw [Row.applies, and_beq_bits]
  simp [List.range, List.range.loop, Bool.and_assoc]

theorem appliesReqInvalidArgument (w : Sel) (f : Byte → Instr) :
    (Row.mk 0x00040020 0x00040821 f).applies w = (!selBit w 0 && selBit w 5 && !selBit w 11 && selBit w 18) := by
  rw [Row.applies, and_beq_bits]
  simp [List.range, List.range.loop, Bool.and_assoc]

theorem appliesReqAccept (w : Sel) (f : Byte → Instr) :
    (Row.mk 0x00000020 0x00040821 f).applies w = (!selBit w 0 && selBit w 5 && !selBit w 11 && !selBit w 18) := by
  rw [Row.applies, and_beq_bits]
  simp [List.range, List.range.loop, Bool.and_assoc]

theorem appliesReqNone (w : Sel) (f : Byte → Instr) :
    (Row.mk 0x00000000 0x00000021 f).applies w = (!selBit w 0 && !selBit w 5) := by
  rw [Row.applies, and_beq_bits]
  simp [List.range, List.range.loop]

theorem appliesReset (w : Sel) (f : Byte → Instr) :
    (Row.mk 0x00000001 0x00000001 f).applies w = (selBit w 0) := by
  rw [Row.applies, and_beq_bits]
  simp [List.range, List.range.loop]

/-- The first row that applies. -/
theorem firstRow_cons (r : Row) (rs : List Row) (w : Sel) :
    firstRow (r :: rs) w = if r.applies w then some (r.op (selByte w)) else firstRow rs w := by
  unfold firstRow
  by_cases h : r.applies w <;> simp [h]

theorem firstRow_nil (w : Sel) : firstRow [] w = none := rfl

/-- Group SR_SELECT (R80, R121). -/
theorem decodeGroup_srSelect (w : Sel) :
    decodeGroup .srSelect w =
      if !selBit w 0 && selBit w 8 then some .selReplay
      else if !selBit w 0 && (selBit w 1 && (!selBit w 2 && !selBit w 8)) then some .selInput
      else if !selBit w 0 then some .selNone else none := by
  simp only [decodeGroup, Group.rows, rowsSrSelect, firstRow_cons, firstRow_nil,
    appliesSelReplay, appliesSelInput, appliesSelNone, Bool.and_assoc]

/-- Group SR_ACTION (R80, R122 to R126). -/
theorem decodeGroup_srAction (w : Sel) :
    decodeGroup .srAction w =
      if !selBit w 0 && (selBit w 7 && (!selBit w 9 && (selBit w 10 && selByte w == 0x65#8))) then
        some .scanSync2
      else if !selBit w 0 && (selBit w 7 && (!selBit w 9 && selByte w == 0x75#8)) then
        some .scanSync1
      else if !selBit w 0 && (selBit w 7 && !selBit w 9) then some (.scanOther (selByte w))
      else if !selBit w 0 && (selBit w 7 && (selBit w 9 && !selBit w 13)) then
        some (.accAppend (selByte w))
      else if !selBit w 0 && (selBit w 7 && (selBit w 9 && (selBit w 13 && selBit w 14))) then
        some (.accEmit (selByte w))
      else if !selBit w 0 && (selBit w 7 && (selBit w 9 && (selBit w 13 && !selBit w 14))) then
        some (.accRescan (selByte w))
      else none := by
  simp only [decodeGroup, Group.rows, rowsSrAction, firstRow_cons, firstRow_nil,
    appliesScanSync2, appliesScanSync1, appliesScanOther, appliesAccAppend, appliesAccEmit,
    appliesAccRescan, Bool.and_assoc]

/-- Group CC_ROUTE (R80, R162, R163). -/
theorem decodeGroup_ccRoute (w : Sel) :
    decodeGroup .ccRoute w =
      if !selBit w 0 && (selBit w 15 && selBit w 16) then some .routeReply
      else if !selBit w 0 && (selBit w 15 && !selBit w 16) then some .forwardFrame
      else none := by
  simp only [decodeGroup, Group.rows, rowsCcRoute, firstRow_cons, firstRow_nil,
    appliesRouteReply, appliesForwardFrame, Bool.and_assoc]

/-- Group CC_SLOT (R80, R162 to R172). -/
theorem decodeGroup_ccSlot (w : Sel) :
    decodeGroup .ccSlot w =
      if !selBit w 0 && (selBit w 11 && (selBit w 16 && selBit w 17)) then some .cmpOk
      else if !selBit w 0 && (selBit w 11 && (selBit w 16 && !selBit w 17)) then
        some .cmpCommandError
      else if !selBit w 0 && (selBit w 2 && selBit w 11) then some .cmpRxIoError
      else if !selBit w 0 && (selBit w 4 && (selBit w 11 && !selBit w 12)) then some .cmpTxIoError
      else if !selBit w 0 && (selBit w 6 && (selBit w 11 && selBit w 19)) then some .cmpTimeout
      else if !selBit w 0 && (selBit w 6 && selBit w 11) then some .tick
      else if !selBit w 0 && selBit w 11 then some .hold
      else none := by
  simp only [decodeGroup, Group.rows, rowsCcSlotEvent, rowHold, List.cons_append, List.nil_append,
    firstRow_cons, firstRow_nil, appliesCmpOk, appliesCmpCommandError, appliesCmpRxIoError,
    appliesCmpTxIoError, appliesCmpTimeout, appliesTick, appliesHold, Bool.and_assoc]

/-- Group CC_TRANSMIT (R80, R156, R157). -/
theorem decodeGroup_ccTransmit (w : Sel) :
    decodeGroup .ccTransmit w =
      if !selBit w 0 && (selBit w 3 && (!selBit w 4 && (selBit w 11 && !selBit w 12))) then
        some .txByte
      else if !selBit w 0 && (selBit w 11 && !selBit w 12) then some .txStall
      else none := by
  simp only [decodeGroup, Group.rows, rowTxByte, rowTxStall, firstRow_cons, firstRow_nil,
    appliesTxByte, appliesTxStall, Bool.and_assoc]

/-- Group CC_REQUEST (R80, R150 to R153). -/
theorem decodeGroup_ccRequest (w : Sel) :
    decodeGroup .ccRequest w =
      if !selBit w 0 && (selBit w 5 && selBit w 11) then some .reqAlreadyPending
      else if !selBit w 0 && (selBit w 5 && (!selBit w 11 && selBit w 18)) then
        some .reqInvalidArgument
      else if !selBit w 0 && (selBit w 5 && (!selBit w 11 && !selBit w 18)) then some .reqAccept
      else if !selBit w 0 && !selBit w 5 then some .reqNone
      else none := by
  simp only [decodeGroup, Group.rows, rowsCcRequest, rowReqNone, List.cons_append, List.nil_append,
    firstRow_cons, firstRow_nil, appliesReqAlreadyPending, appliesReqInvalidArgument,
    appliesReqAccept, appliesReqNone, Bool.and_assoc]

/-- RESET is the one operation of a word with `rst` = 1, and only of such a word. -/
theorem decodeGroup_all (w : Sel) :
    decodeGroup .all w = if selBit w 0 then some .reset else none := by
  simp only [decodeGroup, Group.rows, rowReset, firstRow_cons, firstRow_nil, appliesReset]

/-- All that `decode` can answer. -/
theorem decode_cases (w : Sel) :
    (reservedClear w = false ∧ decode w = .error .reservedBits)
    ∨ (reservedClear w = true ∧ selBit w 0 = true ∧ decode w = .ok [.reset])
    ∨ (reservedClear w = true ∧ selBit w 0 = false
        ∧ decode w = .ok (cycleGroups.filterMap (decodeGroup · w))) := by
  unfold decode
  rw [decodeGroup_all]
  cases reservedClear w <;> cases selBit w 0 <;> simp

/-- The byte field of a word built from its fields. -/
theorem selByte_withSelByte (b : Byte) (p : BitVec 24) : selByte (withSelByte b p) = b := by
  apply BitVec.eq_of_getLsbD_eq
  intro i hi
  have h1 : 24 + i < 32 := by omega
  simp [selByte, withSelByte, h1, hi]

/-- The bits below the byte field of a word built from its fields. -/
theorem selBit_withSelByte (b : Byte) (p : BitVec 24) (n : Nat) (h : n < 24) :
    selBit (withSelByte b p) n = p.getLsbD n := by
  have h1 : n < 32 := by omega
  simp [selBit, withSelByte, h, h1]

end Sys2Proof
end

