-- ==== Sys2Proof/Laws/Operands.lean ====
section
/-! SUPPORT. Every operand is a function of the start of the cycle alone (R13): the registers S, the
inputs and the configuration. -/

namespace Sys2Proof.Machine

/-- Two states of one cycle: the same S, inputs and configuration. -/
structure SameStart (s u : State) : Prop where
  regs  : u.regs = s.regs
  ports : u.ports = s.ports
  cycle : u.cycle = s.cycle
  cfg   : u.cfg = s.cfg

theorem SameStart.refl (s : State) : SameStart s s := ⟨rfl, rfl, rfl, rfl⟩

theorem SameStart.trans {s t u : State} (h : SameStart s t) (k : SameStart t u) : SameStart s u :=
  ⟨k.regs.trans h.regs, k.ports.trans h.ports, k.cycle.trans h.cycle, k.cfg.trans h.cfg⟩

theorem SameStart.inp {s u : State} (h : SameStart s u) : u.inp = s.inp := by
  simp [State.inp, h.ports, h.cycle]

theorem SameStart.examined {s u : State} (h : SameStart s u) : examined u = examined s := by
  simp [Machine.examined, h.inp, h.regs]

theorem SameStart.candidate {s u : State} (h : SameStart s u) : candidate u = candidate s := by
  simp [Machine.candidate, h.examined, h.regs]

theorem SameStart.emitted {s u : State} (h : SameStart s u) : emitted u = emitted s := by
  simp [Machine.emitted, h.candidate]

theorem SameStart.cfgReply {s u : State} (h : SameStart s u) : u.cfgReply = s.cfgReply := by
  funext c f; simp [State.cfgReply, h.cfg]

theorem SameStart.cfgClass {s u : State} (h : SameStart s u) : u.cfgClass = s.cfgClass := by
  funext d; simp [State.cfgClass, h.cfg]

theorem SameStart.replyAck {s u : State} (h : SameStart s u) : replyAck u = replyAck s := by
  simp [Machine.replyAck, h.emitted, h.regs, h.cfgReply]

theorem SameStart.completionDue {s u : State} (h : SameStart s u) :
    completionDue u = completionDue s := by
  simp [Machine.completionDue, h.replyAck, h.regs, h.inp]

theorem SameStart.frameOut {s u : State} (h : SameStart s u) (f : Frame) :
    frameOut u f = frameOut s f := by
  simp [Machine.frameOut, h.cfgClass]

theorem SameStart.selWord {s u : State} (h : SameStart s u) : selWord u = selWord s := by
  simp [Machine.selWord, selBits, h.inp, h.regs, h.examined, h.candidate, h.emitted, h.replyAck]

/-- The completion test by length and the byte at index 1 (R124). -/
theorem frameComplete_eq (a : List Byte) :
    frameComplete a = decide (4 ≤ a.length ∧ a.length = (a.getD 1 0).toNat + 4) := by
  match a with
  | [] => simp [frameComplete]
  | [_] => simp [frameComplete]
  | d :: l :: r => simp [frameComplete]

/-- The frame of a complete candidate (R125). -/
theorem assembleFrame_of_complete {a : List Byte} (h : frameComplete a = true) :
    assembleFrame a = some ⟨a.getD 0 0, (a.drop 2).take (a.length - 4)⟩ := by
  match a, h with
  | d :: l :: r, h =>
    have h' := h
    simp [frameComplete] at h'
    have : r.length + 1 + 1 - 4 = l.toNat := by omega
    simp [assembleFrame, h, this]

/-- In a reset cycle SR examines nothing and hands CC nothing (R230). -/
theorem emitted_of_rst {s : State} (h : s.inp.rst = true) : emitted s = none := by
  simp [emitted, candidate, examined, h]

/-- No reply matches while no command is pending (R161). -/
theorem replyAck_of_idle {s : State} (h : s.regs.cc = none) : replyAck s = none := by
  unfold replyAck; rw [h]; cases emitted s <;> rfl

end Sys2Proof.Machine
end

