-- ==== Sys2Proof/Laws/Ops.lean ====
section
/-! SUPPORT. What each shared operation can answer, said once. -/

namespace Sys2Proof.Machine

/-- `andThen` answers a next state only through both parts. -/
theorem andThen_next {r : Result} {k : State → Result} {t : State} (h : andThen r k = .next t) :
    ∃ u, r = .next u ∧ k u = .next t := by
  cases r with
  | next u => exact ⟨u, rfl, h⟩
  | fault f => cases h
  | refused f => cases h

@[simp] theorem andThen_of_next (u : State) (k : State → Result) : andThen (.next u) k = k u := rfl

/-- RepPop takes the head off S's queue, or faults on an empty one (R54). -/
theorem repPop_cases (s : State) :
    (s.regs.srRep = [] ∧ repPop s = .error .rescanQueueEmpty)
    ∨ ∃ b q, s.regs.srRep = b :: q ∧ repPop s = .ok (b, s.setRep q) := by
  unfold repPop
  cases h : s.regs.srRep with
  | nil => simp
  | cons b q => simp

/-- A rule that reads the slot faults exactly when the slot is free (R33). -/
theorem withPending_cases (s : State) (k : Pending → Result) :
    (s.regs.cc = none ∧ withPending s k = .fault .idleSlotRead)
    ∨ ∃ p, s.regs.cc = some p ∧ withPending s k = k p := by
  unfold withPending
  cases h : s.regs.cc with
  | none => simp
  | some p => simp

/-- MemRead of TXBUF answers the byte at the index, or faults beyond the end (R55). -/
theorem memReadTx_cases (p : Pending) (i : Nat) :
    (p.txf.length ≤ i ∧ memReadTx p i = .error .txIndexOutOfRange)
    ∨ ∃ b, p.txf[i]? = some b ∧ memReadTx p i = .ok b := by
  unfold memReadTx
  by_cases h : i < p.txf.length
  · right; exact ⟨p.txf[i], by simp [h]⟩
  · left; simp [Nat.not_lt.1 h]

/-- `complete` drives the record and frees the slot, and nothing else (R168). -/
theorem complete_eq (s : State) (st : CmpStatus) (k d : Byte) :
    complete s st k d =
      { s with nxt := { s.nxt with cc := none }, out := { s.out with cmp := some ⟨st, k, d⟩ } } := rfl

/-- A completion without an ACK byte is of the pending command, or faults when there is none. -/
theorem completePending_cases (s : State) (st : CmpStatus) :
    (s.regs.cc = none ∧ completePending s st = .fault .idleSlotRead)
    ∨ ∃ p, s.regs.cc = some p ∧ completePending s st = .next (complete s st 0 p.desc) :=
  withPending_cases s _

/-- RESET writes every register and output and leaves the environment and the configuration (R230). -/
theorem resetAll_eq (s : State) :
    resetAll s = { s with nxt := .reset, out := .inactive, wires := {} } := rfl

/-- SR leaves ACC with the mode, the prefix and the accumulated bytes cleared, and the queue as it
was (R125, R126). -/
theorem backToScan_eq (s : State) :
    backToScan s =
      { s with nxt := { s.nxt with srMode := .scan, srPre := false, srAcc := [] } } := rfl

/-- The byte offered to the sink (R155). -/
theorem txOffer_cases (s : State) :
    (txOffer s = .error .txIndexOutOfRange ∧ s.inp.rst = false ∧
      ∃ p, s.regs.cc = some p ∧ p.phase = .tx ∧ p.txf.length ≤ p.txi)
    ∨ (txOffer s = .ok none ∧
        (s.inp.rst = true ∨ s.regs.cc = none ∨ ∃ p, s.regs.cc = some p ∧ p.phase = .wait))
    ∨ ∃ p b, txOffer s = .ok (some b) ∧ s.inp.rst = false ∧ s.regs.cc = some p
        ∧ p.phase = .tx ∧ p.txf[p.txi]? = some b := by
  unfold txOffer
  cases hr : s.inp.rst with
  | true => simp
  | false =>
    cases hc : s.regs.cc with
    | none => simp
    | some p =>
      cases hp : p.phase with
      | wait => simp [hp]
      | tx =>
        cases hb : p.txf[p.txi]? with
        | none => simpa [hp, hb] using List.getElem?_eq_none_iff.1 hb
        | some b => simp [hp, hb]

/-- The start of a cycle keeps S, the inputs and the configuration. -/
theorem beginCycle_next {s t : State} (h : beginCycle s = .next t) :
    ∃ tx, txOffer s = .ok tx ∧
      t = { s with
        nxt := s.regs
        wires := {}
        out := { Output.inactive with rxReady := rxReadyFlag s, busy := busyFlag s, tx := tx } } := by
  unfold beginCycle at h
  cases ht : txOffer s with
  | error f => simp [ht] at h
  | ok tx => exact ⟨tx, rfl, by simpa [ht] using h.symm⟩

/-- A step that answers a next state is a cycle begun, the selected operations run, and a cycle ended. -/
theorem step_next {s t : State} (h : step s = .next t) :
    ∃ u v ops, beginCycle s = .next u ∧ decode (selWord s) = .ok ops ∧ runOps ops u = .next v
      ∧ t = endCycle v := by
  obtain ⟨u, hu, h⟩ := andThen_next (r := beginCycle s) h
  cases hd : decode (selWord s) with
  | error e => simp [hd] at h
  | ok ops =>
    simp only [hd] at h
    obtain ⟨v, hv, h⟩ := andThen_next h
    exact ⟨u, v, ops, hu, rfl, hv, by simpa using h.symm⟩

/-- Operations run one after another. -/
theorem runOps_cons_next {i : Instr} {ops : List Instr} {s t : State}
    (h : runOps (i :: ops) s = .next t) : ∃ u, exec i s = .next u ∧ runOps ops u = .next t :=
  andThen_next h

theorem runOps_append (l k : List Instr) (s : State) :
    runOps (l ++ k) s = andThen (runOps l s) (runOps k) := by
  induction l generalizing s with
  | nil => rfl
  | cons i l ih =>
    cases h : exec i s with
    | next u => simp [runOps, h, ih]
    | fault f => simp [runOps, h, andThen]
    | refused r => simp [runOps, h, andThen]

end Sys2Proof.Machine
end

