-- ==== Sys2Proof/Laws/PerInstr.lean ====
section
/-! SUPPORT. Statements about every operation as syntax, one lemma per constructor of `Instr`. -/

namespace Sys2Proof.Laws.FixedBits

open Sys2Proof

/-- R79, R80: a codec function has no word; any other operation has one, with the reserved bits 0 and
`rst` (bit 0) set in RESET's alone. -/
def Statement (i : Instr) : Prop :=
  match i.group with
  | none => encode i = []
  | some g => ∃ w, encode i = [w] ∧ reservedClear w = true ∧ selBit w 0 = decide (g = .all)

/-- The reserved bits of a word are those of its pattern: the byte field stands above them. -/
theorem reservedClear_withSelByte (b : Byte) (p : BitVec 24)
    (h : p.getLsbD 20 = false ∧ p.getLsbD 21 = false ∧ p.getLsbD 22 = false ∧ p.getLsbD 23 = false) :
    reservedClear (withSelByte b p) = true := by
  unfold reservedClear
  rw [and_beq_bits]
  simp [List.range, List.range.loop, selBit_withSelByte]
  simpa using h

/-- Any word made of a byte and a pattern whose reserved bits are 0. -/
theorem word_shape (b : Byte) (p : BitVec 24) (g : Group)
    (h : p.getLsbD 20 = false ∧ p.getLsbD 21 = false ∧ p.getLsbD 22 = false ∧ p.getLsbD 23 = false)
    (h0 : p.getLsbD 0 = decide (g = .all)) :
    ∃ w, [withSelByte b p] = [w] ∧ reservedClear w = true ∧ selBit w 0 = decide (g = .all) :=
  ⟨_, rfl, reservedClear_withSelByte b p h, by simpa [selBit_withSelByte] using h0⟩

theorem fcChecksum (bytes : List Byte) : Statement (.fcChecksum bytes) := rfl

theorem fcEncode (d : Byte) (p : List Byte) : Statement (.fcEncode d p) := rfl

theorem fcVerify (w : List Byte) : Statement (.fcVerify w) := rfl

theorem fcDecode (w : List Byte) : Statement (.fcDecode w) := rfl

theorem selReplay : Statement .selReplay :=
  word_shape _ _ _ (by decide) (by decide)

theorem selInput : Statement .selInput :=
  word_shape _ _ _ (by decide) (by decide)

theorem selNone : Statement .selNone :=
  word_shape _ _ _ (by decide) (by decide)

theorem scanSync2 : Statement .scanSync2 :=
  word_shape _ _ _ (by decide) (by decide)

theorem scanSync1 : Statement .scanSync1 :=
  word_shape _ _ _ (by decide) (by decide)

theorem scanOther (b : Byte) : Statement (.scanOther b) :=
  word_shape _ _ _ (by decide) (by decide)

theorem accAppend (b : Byte) : Statement (.accAppend b) :=
  word_shape _ _ _ (by decide) (by decide)

theorem accEmit (b : Byte) : Statement (.accEmit b) :=
  word_shape _ _ _ (by decide) (by decide)

theorem accRescan (b : Byte) : Statement (.accRescan b) :=
  word_shape _ _ _ (by decide) (by decide)

theorem reqAlreadyPending : Statement .reqAlreadyPending :=
  word_shape _ _ _ (by decide) (by decide)

theorem reqInvalidArgument : Statement .reqInvalidArgument :=
  word_shape _ _ _ (by decide) (by decide)

theorem reqAccept : Statement .reqAccept :=
  word_shape _ _ _ (by decide) (by decide)

theorem reqNone : Statement .reqNone :=
  word_shape _ _ _ (by decide) (by decide)

theorem cmpOk : Statement .cmpOk :=
  word_shape _ _ _ (by decide) (by decide)

theorem cmpCommandError : Statement .cmpCommandError :=
  word_shape _ _ _ (by decide) (by decide)

theorem cmpRxIoError : Statement .cmpRxIoError :=
  word_shape _ _ _ (by decide) (by decide)

theorem cmpTxIoError : Statement .cmpTxIoError :=
  word_shape _ _ _ (by decide) (by decide)

theorem cmpTimeout : Statement .cmpTimeout :=
  word_shape _ _ _ (by decide) (by decide)

theorem tick : Statement .tick :=
  word_shape _ _ _ (by decide) (by decide)

theorem hold : Statement .hold :=
  word_shape _ _ _ (by decide) (by decide)

theorem txByte : Statement .txByte :=
  word_shape _ _ _ (by decide) (by decide)

theorem txStall : Statement .txStall :=
  word_shape _ _ _ (by decide) (by decide)

theorem routeReply : Statement .routeReply :=
  word_shape _ _ _ (by decide) (by decide)

theorem forwardFrame : Statement .forwardFrame :=
  word_shape _ _ _ (by decide) (by decide)

theorem reset : Statement .reset :=
  word_shape _ _ _ (by decide) (by decide)

end Sys2Proof.Laws.FixedBits
end

