-- ==== Sys2Proof/Laws/Select.lean ====
section
/-! SUPPORT. The bits of the selection word of a state (R78, R79). -/

namespace Sys2Proof.Machine

theorem bitAt_getLsbD (w : Nat) (v : Bool) (n i : Nat) :
    (bitAt w v n).getLsbD i = (decide (i < w) && (decide (i = n) && v)) := by
  unfold bitAt
  rw [BitVec.getLsbD_shiftLeft, BitVec.getLsbD_setWidth, BitVec.getLsbD_ofBool]
  cases v
  · simp
  · rw [Bool.eq_iff_iff]; simp; omega

theorem cycWord_bit0 (i : CycleIn) : (cycWord i).getLsbD 0 = i.rst := by
  simp [cycWord, bitAt_getLsbD, -BitVec.getLsbD_eq_getElem]

theorem cycWord_bit1 (i : CycleIn) : (cycWord i).getLsbD 1 = i.rx.isSome := by
  simp [cycWord, bitAt_getLsbD, -BitVec.getLsbD_eq_getElem]

theorem cycWord_bit2 (i : CycleIn) : (cycWord i).getLsbD 2 = i.rxErr := by
  simp [cycWord, bitAt_getLsbD, -BitVec.getLsbD_eq_getElem]

theorem cycWord_bit3 (i : CycleIn) : (cycWord i).getLsbD 3 = i.txReady := by
  simp [cycWord, bitAt_getLsbD, -BitVec.getLsbD_eq_getElem]

theorem cycWord_bit4 (i : CycleIn) : (cycWord i).getLsbD 4 = i.txErr := by
  simp [cycWord, bitAt_getLsbD, -BitVec.getLsbD_eq_getElem]

theorem cycWord_bit5 (i : CycleIn) : (cycWord i).getLsbD 5 = i.req.isSome := by
  simp [cycWord, bitAt_getLsbD, -BitVec.getLsbD_eq_getElem]

theorem cycWord_bit6 (i : CycleIn) : (cycWord i).getLsbD 6 = i.tick := by
  simp [cycWord, bitAt_getLsbD, -BitVec.getLsbD_eq_getElem]

@[simp] theorem selWord_bit0 (s : State) : selBit (selWord s) 0 = s.inp.rst := by
  simp [selBit, selWord, selBits, SelBits.pack, bitAt_getLsbD, cycWord_bit0, -BitVec.getLsbD_eq_getElem]

@[simp] theorem selWord_bit1 (s : State) : selBit (selWord s) 1 = s.inp.rx.isSome := by
  simp [selBit, selWord, selBits, SelBits.pack, bitAt_getLsbD, cycWord_bit1, -BitVec.getLsbD_eq_getElem]

@[simp] theorem selWord_bit2 (s : State) : selBit (selWord s) 2 = s.inp.rxErr := by
  simp [selBit, selWord, selBits, SelBits.pack, bitAt_getLsbD, cycWord_bit2, -BitVec.getLsbD_eq_getElem]

@[simp] theorem selWord_bit3 (s : State) : selBit (selWord s) 3 = s.inp.txReady := by
  simp [selBit, selWord, selBits, SelBits.pack, bitAt_getLsbD, cycWord_bit3, -BitVec.getLsbD_eq_getElem]

@[simp] theorem selWord_bit4 (s : State) : selBit (selWord s) 4 = s.inp.txErr := by
  simp [selBit, selWord, selBits, SelBits.pack, bitAt_getLsbD, cycWord_bit4, -BitVec.getLsbD_eq_getElem]

@[simp] theorem selWord_bit5 (s : State) : selBit (selWord s) 5 = s.inp.req.isSome := by
  simp [selBit, selWord, selBits, SelBits.pack, bitAt_getLsbD, cycWord_bit5, -BitVec.getLsbD_eq_getElem]

@[simp] theorem selWord_bit6 (s : State) : selBit (selWord s) 6 = s.inp.tick := by
  simp [selBit, selWord, selBits, SelBits.pack, bitAt_getLsbD, cycWord_bit6, -BitVec.getLsbD_eq_getElem]

@[simp] theorem selWord_bit7 (s : State) : selBit (selWord s) 7 = (selBits s).ex := by
  simp [selBit, selWord, SelBits.pack, bitAt_getLsbD, -BitVec.getLsbD_eq_getElem]

@[simp] theorem selWord_bit8 (s : State) : selBit (selWord s) 8 = (selBits s).rep := by
  simp [selBit, selWord, SelBits.pack, bitAt_getLsbD, -BitVec.getLsbD_eq_getElem]

@[simp] theorem selWord_bit9 (s : State) : selBit (selWord s) 9 = (selBits s).mode := by
  simp [selBit, selWord, SelBits.pack, bitAt_getLsbD, -BitVec.getLsbD_eq_getElem]

@[simp] theorem selWord_bit10 (s : State) : selBit (selWord s) 10 = (selBits s).pre := by
  simp [selBit, selWord, SelBits.pack, bitAt_getLsbD, -BitVec.getLsbD_eq_getElem]

@[simp] theorem selWord_bit11 (s : State) : selBit (selWord s) 11 = (selBits s).busy := by
  simp [selBit, selWord, SelBits.pack, bitAt_getLsbD, -BitVec.getLsbD_eq_getElem]

@[simp] theorem selWord_bit12 (s : State) : selBit (selWord s) 12 = (selBits s).phase := by
  simp [selBit, selWord, SelBits.pack, bitAt_getLsbD, -BitVec.getLsbD_eq_getElem]

@[simp] theorem selWord_bit13 (s : State) : selBit (selWord s) 13 = (selBits s).fc := by
  simp [selBit, selWord, SelBits.pack, bitAt_getLsbD, -BitVec.getLsbD_eq_getElem]

@[simp] theorem selWord_bit14 (s : State) : selBit (selWord s) 14 = (selBits s).ckok := by
  simp [selBit, selWord, SelBits.pack, bitAt_getLsbD, -BitVec.getLsbD_eq_getElem]

@[simp] theorem selWord_bit15 (s : State) : selBit (selWord s) 15 = (selBits s).fe := by
  simp [selBit, selWord, SelBits.pack, bitAt_getLsbD, -BitVec.getLsbD_eq_getElem]

@[simp] theorem selWord_bit16 (s : State) : selBit (selWord s) 16 = (selBits s).rm := by
  simp [selBit, selWord, SelBits.pack, bitAt_getLsbD, -BitVec.getLsbD_eq_getElem]

@[simp] theorem selWord_bit17 (s : State) : selBit (selWord s) 17 = (selBits s).ackz := by
  simp [selBit, selWord, SelBits.pack, bitAt_getLsbD, -BitVec.getLsbD_eq_getElem]

@[simp] theorem selWord_bit18 (s : State) : selBit (selWord s) 18 = (selBits s).lenbad := by
  simp [selBit, selWord, SelBits.pack, bitAt_getLsbD, -BitVec.getLsbD_eq_getElem]

@[simp] theorem selWord_bit19 (s : State) : selBit (selWord s) 19 = (selBits s).tle1 := by
  simp [selBit, selWord, SelBits.pack, bitAt_getLsbD, -BitVec.getLsbD_eq_getElem]

/-- Bits 31:24 of the selection word are the examined byte, or 0 where there is none. -/
@[simp] theorem selWord_byte (s : State) : selByte (selWord s) = (examined s).getD 0 := by
  apply BitVec.eq_of_getLsbD_eq
  intro i hi
  have h : ∀ k, k < 24 → ¬ (24 + i = k) := by omega
  have h1 : 24 + i < 32 := by omega
  have h2 : i < 32 := by omega
  have h3 : (cycWord s.inp).getLsbD (24 + i) = false := BitVec.getLsbD_of_ge _ _ (by omega)
  simp [selByte, selWord, selBits, SelBits.pack, bitAt_getLsbD, hi, h, h1, h2, h3,
    -BitVec.getLsbD_eq_getElem]

/-- Bits 23:20 of the selection word are 0. -/
@[simp] theorem selWord_reserved (s : State) : reservedClear (selWord s) = true := by
  unfold reservedClear
  rw [and_beq_bits]
  simp [List.range, List.range.loop, selBit, selWord, selBits, SelBits.pack, bitAt_getLsbD,
    -BitVec.getLsbD_eq_getElem]

end Sys2Proof.Machine
end

