-- ==== Sys2Proof/Tests/Slice0.lean ====
section
/-! SUPPORT. Tests on fixed values. An expected result is from 95_test_vectors.md where a comment names
a vector (V) or a program (P), else written out from the rule named. A theorem `witness_…` shows that
the hypotheses of a statement can be met, at the ends of a range where there is one. -/

namespace Sys2Proof.Tests

open Sys2Proof Sys2Proof.Machine

/-! ## Helpers -/

/-- The ping `75 65 01 00 DB 05` (V1). -/
def pingFrame : List Byte := [0x75, 0x65, 0x01, 0x00, 0xDB, 0x05]

/-- A pending ping. -/
def ping (timer : U32) (phase : TxPhase) (txi : Nat) : Pending :=
  { desc := 0x01, timer := timer, phase := phase, txf := pingFrame, txi := txi }

/-- SR in the given registers, no command pending. -/
def sr (mode : SrMode) (pre : Bool) (acc rep : List Byte) : Regs :=
  { srMode := mode, srPre := pre, srAcc := acc, srRep := rep, cc := none }

/-- SR scanning, the given command pending. -/
def cc (p : Pending) : Regs := { Regs.reset with cc := some p }

/-- The reply table of the programs: the ACK byte is payload byte 3 of a `04 F1` payload. -/
def table : CfgTable :=
  { replies := [⟨0x01, ⟨0x01, [0x04, 0xF1, 0x01, 0x00]⟩, some 0x00⟩,
                ⟨0x01, ⟨0x01, [0x04, 0xF1, 0x01, 0x03]⟩, some 0x03⟩,
                ⟨0x01, ⟨0x02, [0x04]⟩, none⟩]
    classes := [⟨0x01, .other⟩, ⟨0x02, .other⟩, ⟨0x82, .filter⟩] }

/-- The reset machine with these registers and these inputs in the next cycle. -/
def mk (r : Regs) (i : CycleIn) : State :=
  { State.reset with regs := r, nxt := r, ports := [i], cfg := table }

/-- The step answers a next state with this property. -/
def nextIs (s : State) (P : State → Bool) : Bool :=
  match step s with
  | .next t => P t
  | .fault _ => false
  | .refused _ => false

/-- The meaning answers a next state with this property. -/
def execIs (i : Instr) (s : State) (P : State → Bool) : Bool :=
  match exec i s with
  | .next t => P t
  | .fault _ => false
  | .refused _ => false

theorem next_of_nextIs {s : State} {P : State → Bool} (h : nextIs s P = true) :
    ∃ t, step s = .next t ∧ P t = true := by
  unfold nextIs at h
  cases hs : step s with
  | next t => exact ⟨t, rfl, by simpa [hs] using h⟩
  | fault f => simp [hs] at h
  | refused r => simp [hs] at h

theorem next_of_execIs {i : Instr} {s : State} {P : State → Bool} (h : execIs i s P = true) :
    ∃ t, exec i s = .next t ∧ P t = true := by
  unfold execIs at h
  cases hs : exec i s with
  | next t => exact ⟨t, rfl, by simpa [hs] using h⟩
  | fault f => simp [hs] at h
  | refused r => simp [hs] at h

/-! ## Well-formedness -/

/-- SR.SCAN_SYNC1 takes the byte 0x75 (R80, first row that applies). -/
theorem test_scanOther_refuses_sync1 : (Instr.scanOther 0x75).wellFormed = false := by decide
theorem test_scanOther_admits_others :
    (Instr.scanOther 0x74).wellFormed = true ∧ (Instr.scanOther 0x65).wellFormed = true := by decide
/-- R12: 255 payload bytes at most. -/
theorem test_frame_too_long : Frame.wellFormed ⟨0x01, List.replicate 256 0x00⟩ = false := by decide +kernel
theorem test_frame_longest : Frame.wellFormed ⟨0x01, List.replicate 255 0x00⟩ = true := by decide +kernel

/-! ## Decoding: words written out from spec/opcode_table.json -/

/-- R80 and the `note` of the four FC rows: they are not decoded from SEL. -/
theorem test_fc_has_no_word :
    encode (.fcChecksum []) = [] ∧ encode (.fcEncode 0x01 []) = [] ∧ encode (.fcVerify []) = []
    ∧ encode (.fcDecode []) = [] := by decide

theorem test_decode_sr_select :
    decodeGroup .srSelect 0x00000100 = some .selReplay
    ∧ decodeGroup .srSelect 0x00000002 = some .selInput
    ∧ decodeGroup .srSelect 0x00000000 = some .selNone
    ∧ decodeGroup .srSelect 0x00000006 = some .selNone
    ∧ decodeGroup .srSelect 0x00000102 = some .selReplay := by decide

theorem test_decode_sr_action :
    decodeGroup .srAction 0x65000480 = some .scanSync2
    ∧ decodeGroup .srAction 0x75000080 = some .scanSync1
    ∧ decodeGroup .srAction 0x75000480 = some .scanSync1
    ∧ decodeGroup .srAction 0x65000080 = some (.scanOther 0x65)
    ∧ decodeGroup .srAction 0x01000280 = some (.accAppend 0x01)
    ∧ decodeGroup .srAction 0x05006280 = some (.accEmit 0x05)
    ∧ decodeGroup .srAction 0xAA002280 = some (.accRescan 0xAA)
    ∧ decodeGroup .srAction 0x00000000 = none := by decide

theorem test_decode_cc_request :
    decodeGroup .ccRequest 0x00040820 = some .reqAlreadyPending
    ∧ decodeGroup .ccRequest 0x00040020 = some .reqInvalidArgument
    ∧ decodeGroup .ccRequest 0x00000020 = some .reqAccept
    ∧ decodeGroup .ccRequest 0x00000000 = some .reqNone := by decide

/-- The order of R167 within the group. -/
theorem test_decode_cc_slot :
    decodeGroup .ccSlot 0x00030844 = some .cmpOk
    ∧ decodeGroup .ccSlot 0x00010804 = some .cmpCommandError
    ∧ decodeGroup .ccSlot 0x00080854 = some .cmpRxIoError
    ∧ decodeGroup .ccSlot 0x00080850 = some .cmpTxIoError
    ∧ decodeGroup .ccSlot 0x00080840 = some .cmpTimeout
    ∧ decodeGroup .ccSlot 0x00000840 = some .tick
    ∧ decodeGroup .ccSlot 0x00001810 = some .hold
    ∧ decodeGroup .ccSlot 0x00000040 = none := by decide

theorem test_decode_cc_transmit :
    decodeGroup .ccTransmit 0x00000808 = some .txByte
    ∧ decodeGroup .ccTransmit 0x00000818 = some .txStall
    ∧ decodeGroup .ccTransmit 0x00000800 = some .txStall
    ∧ decodeGroup .ccTransmit 0x00001808 = none := by decide

theorem test_decode_cc_route :
    decodeGroup .ccRoute 0x00018000 = some .routeReply
    ∧ decodeGroup .ccRoute 0x00008000 = some .forwardFrame := by decide

theorem test_decode_reset : decode 0x0000007F = .ok [.reset] := by decide
theorem test_decode_reserved : decode 0x00100000 = .error .reservedBits := by decide
/-- A whole word: an idle cycle with a command waiting. -/
theorem test_decode_whole : decode 0x00001800 = .ok [.selNone, .hold, .reqNone] := by decide

/-! ## The selection word and the stimulus notation -/

/-- R87: the line `REQ 01,[],10 | TXR` is CYC 0x28. -/
theorem test_cyc_word : cycWord (stimLine [.req 0x01 [] 10, .txr]) = 0x28 := by decide
/-- R88: `SEND` is the request line and `6 + n` transmit lines. -/
theorem test_send_length : (stimSend 0x0C [0x02] 20).length = 8 := by decide
/-- R79: busy (bit 11) in WAIT (bit 12) with timer 1 (bit 19), under `TICK` (bit 6). -/
theorem test_sel_word : selWord (mk (cc (ping 1 .wait 6)) { tick := true }) = 0x00081840 := by decide

/-! ## Frame Codec -/

/-- V1, V4. -/
theorem test_checksum :
    checksum [0x75, 0x65, 0x01, 0x00] = 0xDB05 ∧ checksum [] = 0 ∧ checksum [0x01] = 0x0101
    ∧ checksum [0xFF, 0xFF] = 0xFEFD := by decide
/-- V2, V5. -/
theorem test_encode :
    encodeFrame 0x01 [0x02, 0x01] = some [0x75, 0x65, 0x01, 0x02, 0x02, 0x01, 0xE0, 0xC6]
    ∧ encodeFrame 0x75 [0x65] = some [0x75, 0x65, 0x75, 0x01, 0x65, 0xB5, 0xA3] := by decide
/-- V3. -/
theorem test_decodeFrame :
    decodeFrame [0x75, 0x65, 0x80, 0x02, 0x01, 0x02, 0x5F, 0xC1] = some ⟨0x80, [0x01, 0x02]⟩
    ∧ decodeFrame (pingFrame ++ [0x00]) = none
    ∧ decodeFrame [0x75, 0x66, 0x01, 0x00, 0xDB, 0x05] = none
    ∧ decodeFrame [0x75, 0x65, 0x01, 0x00, 0xDB] = none := by decide
/-- V6, V7. -/
theorem test_verify :
    verify pingFrame = true ∧ verify [0x75, 0x65, 0x01, 0x00, 0xDB, 0x04] = false
    ∧ verify [0x75, 0x65, 0x03, 0x03, 0x80, 0x00, 0x80, 0xE0, 0xAC] = true
    ∧ verify [0x75, 0x65, 0x03, 0x03, 0x80, 0x00, 0x00, 0xE0, 0xAC] = false := by decide
theorem test_exec_checksum : execIs (.fcChecksum [0x01]) .reset
    (fun t => t.wires.fc == some (.checksum 0x0101) && t.nxt == .reset) = true := by decide
theorem test_exec_encode : execIs (.fcEncode 0x01 []) .reset
    (fun t => t.wires.fc == some (.encoded pingFrame)) = true := by decide
theorem test_exec_verify : execIs (.fcVerify pingFrame) .reset
    (fun t => t.wires.fc == some (.verified true)) = true := by decide
theorem test_exec_decode : execIs (.fcDecode pingFrame) .reset
    (fun t => t.wires.fc == some (.decoded (some ⟨0x01, []⟩))) = true := by decide

/-! ## Stream Reassembler, one cycle each -/

/-- P3 c13: the queue's head is examined, the held input is not taken. -/
theorem test_replay : nextIs (mk (sr .scan false [] [0xAA, 0x06]) { rx := some 0x75 })
    (fun t => t.regs == sr .scan false [] [0x06] && t.out.rxReady == false
      && t.wires.taken == none) = true := by decide
/-- V10 c0 and c1; V14: a second 0x75 keeps the prefix. -/
theorem test_sync1 : nextIs (mk (sr .scan false [] []) { rx := some 0x75 })
    (fun t => t.regs == sr .scan true [] [] && t.out.rxReady) = true := by decide
theorem test_sync1_again : nextIs (mk (sr .scan true [] []) { rx := some 0x75 })
    (fun t => t.regs == sr .scan true [] []) = true := by decide
theorem test_sync2 : nextIs (mk (sr .scan true [] []) { rx := some 0x65 })
    (fun t => t.regs == sr .acc false [] []) = true := by decide
/-- V14: `00` clears the prefix. -/
theorem test_scan_other : nextIs (mk (sr .scan true [] []) { rx := some 0x00 })
    (fun t => t.regs == sr .scan false [] []) = true := by decide
/-- V10 c3. -/
theorem test_append : nextIs (mk (sr .acc false [0x01] []) { rx := some 0x00 })
    (fun t => t.regs == sr .acc false [0x01, 0x00] []) = true := by decide
/-- V16: with `rx_err` nothing is transferred and nothing changes. -/
theorem test_rxErr_stops_transfer : nextIs (mk (sr .acc false [0x01] []) { rx := some 0x00, rxErr := true })
    (fun t => t.regs == sr .acc false [0x01] [] && t.wires.exam == none) = true := by decide
/-- V10 c5: the frame is emitted and forwarded. -/
theorem test_emit : nextIs (mk (sr .acc false [0x01, 0x00, 0xDB] []) { rx := some 0x05 })
    (fun t => t.regs == sr .scan false [] [] && t.out.fo == some ⟨0x01, 0, [], .other⟩) = true := by
  decide
/-- R126 with bytes left in the queue: the rejected bytes go in front of the rest. -/
theorem test_rescan : nextIs (mk (sr .acc false [0x01, 0x00, 0xDB] [0x06, 0x75, 0x65]) {})
    (fun t => t.regs == sr .scan false [] [0x01, 0x00, 0xDB, 0x06, 0x75, 0x65]
      && t.out.fo == none) = true := by decide

/-! ## Command Correlator, one cycle each -/

/-- V20. -/
theorem test_accept : nextIs (mk .reset { req := some ⟨0x01, [], 10⟩ })
    (fun t => t.regs == cc (ping 10 .tx 0) && t.out.rq == some .accepted && !t.out.busy) = true := by
  decide
theorem test_invalid_argument : nextIs (mk .reset { req := some ⟨0x07, List.replicate 256 0x00, 3⟩ })
    (fun t => t.regs == .reset && t.out.rq == some .invalidArgument) = true := by decide +kernel
/-- P4 c3: refused in the cycle of the completion. -/
theorem test_already_pending : nextIs (mk (cc (ping 1 .tx 0)) { tick := true, req := some ⟨0x02, [0x11], 9⟩ })
    (fun t => t.regs == .reset && t.out.rq == some .alreadyPending
      && t.out.cmp == some ⟨.timeoutError, 0x00, 0x01⟩) = true := by decide
/-- V21 c3 and c4: a byte moves, a byte is held. -/
theorem test_tx_byte : nextIs (mk (cc (ping 10 .tx 0)) { txReady := true })
    (fun t => t.regs == cc (ping 10 .tx 1) && t.out.tx == some 0x75 && t.wires.sent == some 0x75) = true := by
  decide
theorem test_tx_stall : nextIs (mk (cc (ping 10 .tx 1)) {})
    (fun t => t.regs == cc (ping 10 .tx 1) && t.out.tx == some 0x65 && t.wires.sent == none) = true := by
  decide
/-- R156: the last byte moves the phase to WAIT. -/
theorem test_tx_last : nextIs (mk (cc (ping 10 .tx 5)) { txReady := true })
    (fun t => t.regs == cc (ping 10 .wait 6) && t.out.tx == some 0x05) = true := by decide
/-- P4 c9: the byte goes in the cycle of the timeout, and `T = 0` is due. -/
theorem test_tx_in_timeout : nextIs (mk (cc (ping 0 .tx 0)) { tick := true, txReady := true })
    (fun t => t.regs == .reset && t.wires.sent == some 0x75
      && t.out.cmp == some ⟨.timeoutError, 0x00, 0x01⟩) = true := by decide
/-- V26 (b). -/
theorem test_tick : nextIs (mk (cc (ping 3 .wait 6)) { tick := true })
    (fun t => t.regs == cc (ping 2 .wait 6) && t.out.cmp == none) = true := by decide
theorem test_hold : nextIs (mk (cc (ping 1 .wait 6)) {})
    (fun t => t.regs == cc (ping 1 .wait 6)) = true := by decide
/-- V24. -/
theorem test_rx_io_error :
    nextIs (mk (cc (ping 1 .tx 0)) { rxErr := true, txErr := true, txReady := true, tick := true })
      (fun t => t.regs == .reset && t.out.cmp == some ⟨.ioError, 0x00, 0x01⟩ && t.wires.sent == none)
      = true := by decide
theorem test_tx_io_error : nextIs (mk (cc (ping 1 .tx 0)) { txErr := true, txReady := true, tick := true })
    (fun t => t.regs == .reset && t.out.cmp == some ⟨.ioError, 0x00, 0x01⟩) = true := by decide
/-- R166: `tx_err` in WAIT has no effect. -/
theorem test_tx_err_in_wait : nextIs (mk (cc (ping 9 .wait 6)) { txErr := true })
    (fun t => t.regs == cc (ping 9 .wait 6) && t.out.cmp == none) = true := by decide

/-- SR one byte short of the reply `75 65 01 04 04 F1 01 00 D5 6A` (V5), the ping pending. -/
def atReply (p : Pending) : Regs :=
  { srMode := .acc, srPre := false, srAcc := [0x01, 0x04, 0x04, 0xF1, 0x01, 0x00, 0xD5], srRep := [],
    cc := some p }

/-- V23 (b): the reply wins over the deadline. -/
theorem test_reply_ok : nextIs (mk (atReply (ping 1 .wait 6)) { rx := some 0x6A, tick := true })
    (fun t => t.regs == .reset && t.out.cmp == some ⟨.ok, 0x00, 0x01⟩ && t.out.fo == none) = true := by
  decide
/-- V22: during TX it is forwarded. -/
theorem test_reply_in_tx : nextIs (mk (atReply (ping 100 .tx 0)) { rx := some 0x6A })
    (fun t => t.regs == cc (ping 100 .tx 0)
      && t.out.fo == some ⟨0x01, 4, [0x04, 0xF1, 0x01, 0x00], .other⟩) = true := by decide
/-- R162: a non-zero ACK byte; the checksum D8 6D of this NACK is by R100 from V5's D5 6A: the byte
before the checksum is 3 more, so A and B are. -/
theorem test_reply_command_error :
    nextIs (mk { atReply (ping 9 .wait 6) with
        srAcc := [0x01, 0x04, 0x04, 0xF1, 0x01, 0x03, 0xD8] } { rx := some 0x6D })
      (fun t => t.regs == .reset && t.out.cmp == some ⟨.commandError, 0x03, 0x01⟩) = true := by decide

/-! ## Reset -/

/-- V30 c4. -/
theorem test_reset : nextIs (mk { cc (ping 10 .tx 2) with srMode := .acc }
      { rst := true, req := some ⟨0x02, [], 5⟩, rx := some 0x01 })
    (fun t => t.regs == .reset && t.out == .inactive && t.wires.taken == none) = true := by decide

/-! ## Witnesses -/

theorem witness_EncodeThenDecodeGivesTheOperation :
    (Instr.scanOther 0x76).wellFormed = true ∧ (Instr.scanOther 0x76).group = some .srAction
    ∧ (Instr.accEmit 0xFF).wellFormed = true ∧ (Instr.accEmit 0xFF).group = some .srAction := by decide

theorem witness_DecodedOperationIsWellFormedAndOfItsGroup :
    decodeGroup .srAction 0x74000080 = some (.scanOther 0x74) := by decide

/-- Both sides of the equivalence occur. -/
theorem witness_DecodeRefusesExactlyReservedBits :
    selBit 0x00800000 23 = true ∧ selBit 0xFF0FFFFF 20 = false := by decide

theorem witness_SelectionFollowsStateAndInputs : (mk .reset {}).inp.rst = false := by decide
theorem witness_ResetIsSelectedAlone : (mk .reset { rst := true }).inp.rst = true := by decide

theorem witness_StepRunsTheSelectedOperations :
    decode (selWord (mk .reset {})) = .ok [.selNone, .reqNone] ∧ txOffer (mk .reset {}) = .ok none
    ∧ txOffer (mk (cc (ping 1 .tx 6)) {}) = .error .txIndexOutOfRange := by
  refine ⟨by decide, rfl, rfl⟩

/-- Both cases of the specification function occur. -/
theorem witness_StepIsTheCycleStepOfTheSpec :
    (refCycle (fun _ _ => none) (fun _ => .other) .reset {}).isSome = true
    ∧ refCycle (fun _ _ => none) (fun _ => .other) (cc (ping 1 .tx 6)) {} = none := by decide

theorem invariant_ping (t : U32) (i : CycleIn) : Invariant (mk (cc (ping t .tx 0)) i) := by
  refine ⟨⟨(fun _ => rfl), (fun h => by cases h), (fun h => by cases h), Nat.zero_le _⟩, ?_⟩
  intro p hp
  cases hp
  exact ⟨fun _ => (by decide : 0 < 6), (fun h => by cases h), (by decide : 6 ≤ 6),
    (by decide : 6 ≤ 261), [], (by decide : encodeFrame 0x01 [] = some pingFrame)⟩

theorem witness_StepIsTotalAndKeepsTheInvariants :
    Invariant (mk (cc (ping 3 .tx 0)) { tick := true }) := invariant_ping _ _

theorem witness_ResetCycleResetsEverything : (mk (cc (ping 1 .tx 0)) { rst := true }).inp.rst = true := by
  decide

theorem witness_FirstCycleAfterResetIsReady :
    (mk .reset { rx := some 0x75 }).regs = State.reset.regs
    ∧ (mk .reset { rx := some 0x75 }).inp.rst = false ∧ (mk .reset { rx := some 0x75 }).inp.req = none := by
  decide

theorem witness_ConfigurationIsFixed :
    (∃ t, step (mk .reset {}) = .next t ∧ true = true) ∧ ∃ t, exec .hold .reset = .next t ∧ true = true :=
  ⟨next_of_nextIs (P := fun _ => true) (by decide), next_of_execIs (P := fun _ => true) (by decide)⟩

/-- An operation of each unit answers. -/
theorem witness_OperationsWriteTheirOwnUnitOnly :
    (∃ t, exec (.fcVerify []) .reset = .next t ∧ (Instr.fcVerify []).group.isNone = true)
    ∧ (∃ t, exec .scanSync1 .reset = .next t ∧ decide (Instr.scanSync1.group = some .srAction) = true)
    ∧ (∃ t, exec .tick (mk (cc (ping 3 .tx 0)) {}) = .next t
        ∧ decide (Instr.tick.group = some .ccSlot) = true) :=
  ⟨next_of_execIs (P := fun _ => _) (by decide), next_of_execIs (P := fun _ => _) (by decide),
    next_of_execIs (P := fun _ => _) (by decide)⟩

theorem witness_CodecFunctionsAnswerInEveryState :
    (encodeFrame 0x01 []).isSome = true ∧ (encodeFrame 0x01 (List.replicate 255 0x00)).isSome = true
    ∧ 255 < (List.replicate 256 (0x00 : Byte)).length := by
  refine ⟨by decide, by decide +kernel, by decide +kernel⟩

theorem witness_ChecksumClosedForms : ([0x75, 0x65] : List Byte)[1]? = some 0x65 := by decide

theorem witness_EncodedFrameHasTheWireLayout :
    ([] : List Byte).length ≤ 255 ∧ (List.replicate 255 (0x00 : Byte)).length ≤ 255
    ∧ 255 < (List.replicate 256 (0x00 : Byte)).length := by decide +kernel

theorem witness_EncodedFrameVerifiesAndDecodes :
    (List.replicate 255 (0x00 : Byte)).length ≤ 255 := by decide +kernel

theorem witness_DecodedFrameIsStructurallySound : decodeFrame pingFrame = some ⟨0x01, []⟩ := by decide

theorem witness_SingleByteErrorIsDetected :
    encodeFrame 0x01 [] = some pingFrame ∧ 5 < pingFrame.length ∧ pingFrame[5]? ≠ some 0x04
    ∧ 0 < pingFrame.length ∧ pingFrame[0]? ≠ some 0x74 := by decide

/-- V7: 0x80 at distance 2 goes undetected, at distance 1 not. -/
theorem witness_OppositeErrorsPassExactlyByDistance :
    (4 : Nat) < 6 ∧ ([0x75, 0x65, 0x03, 0x03, 0x00, 0x00, 0x00] : List Byte)[4]? = some 0x00
    ∧ ([0x75, 0x65, 0x03, 0x03, 0x00, 0x00, 0x00] : List Byte)[6]? = some 0x00
    ∧ ((6 - 4) * (0x80 : Byte).toNat) % 256 = 0 ∧ ((5 - 4) * (0x80 : Byte).toNat) % 256 ≠ 0 := by decide

theorem witness_SelectionOperationsAnswer :
    (mk (sr .scan false [] [0xAA, 0x06]) {}).regs.srRep = 0xAA :: [0x06]
    ∧ (mk .reset {}).regs.srRep = [] ∧ (mk .reset { rx := some 0x75 }).inp.rx = some 0x75 := by decide

/-- The smallest and the largest complete frame. -/
theorem witness_AccumulateOperationsAnswer :
    ((mk (sr .acc false [0x01, 0x00, 0xDB] []) {}).regs.srAcc ++ [0x05] = 0x01 :: 0x00 :: [0xDB, 0x05]
      ∧ [0xDB, (0x05 : Byte)].length = (0x00 : Byte).toNat + 2)
    ∧ ((mk (sr .acc false (0x00 :: 0xFF :: List.replicate 256 0x00) []) {}).regs.srAcc ++ [0x00]
        = 0x00 :: 0xFF :: List.replicate 257 0x00
      ∧ (List.replicate 257 (0x00 : Byte)).length = (0xFF : Byte).toNat + 2) :=
  ⟨⟨rfl, rfl⟩, by decide +kernel, by decide +kernel⟩

theorem witness_CycleExaminesTheSelectedByte :
    ∃ t, step (mk .reset { rx := some 0x75 }) = .next t ∧ (t.wires.taken == some 0x75) = true :=
  next_of_nextIs (P := fun t => t.wires.taken == some 0x75) (by decide)

theorem witness_InputReadyExactlyWithEmptyQueue :
    (∃ t, step (mk .reset {}) = .next t ∧ t.out.rxReady = true)
    ∧ ∃ t, step (mk (sr .scan false [] [0x00]) {}) = .next t ∧ (!t.out.rxReady) = true :=
  ⟨next_of_nextIs (P := fun t => t.out.rxReady) (by decide),
    next_of_nextIs (P := fun t => !t.out.rxReady) (by decide)⟩

theorem witness_IdleCycleLeavesReassemblerUnchanged :
    ∃ t, step (mk (sr .acc false [0x01] []) { rx := some 0x00, rxErr := true }) = .next t
      ∧ (t.wires.exam == none) = true :=
  next_of_nextIs (P := fun t => t.wires.exam == none) (by decide)

/-- Each of the two clauses: the marker completed, and not. -/
theorem witness_ScanningCycleTracksTheSyncMarker :
    (∃ t, step (mk (sr .scan true [] []) { rx := some 0x65 }) = .next t
      ∧ (t.wires.exam == some 0x65) = true)
    ∧ (∃ t, step (mk (sr .scan false [] []) { rx := some 0x65 }) = .next t
      ∧ (t.wires.exam == some 0x65) = true)
    ∧ ∃ t, step (mk (sr .scan true [] []) { rx := some 0x75 }) = .next t
      ∧ (t.wires.exam == some 0x75) = true :=
  ⟨next_of_nextIs (P := fun t => t.wires.exam == some 0x65) (by decide),
    next_of_nextIs (P := fun t => t.wires.exam == some 0x65) (by decide),
    next_of_nextIs (P := fun t => t.wires.exam == some 0x75) (by decide)⟩

theorem witness_OnlyValidFramesAreEmitted :
    ∃ t, step (mk (sr .acc false [0x01, 0x00, 0xDB] []) { rx := some 0x05 }) = .next t
      ∧ (t.wires.frame == some ⟨0x01, []⟩) = true :=
  next_of_nextIs (P := fun t => t.wires.frame == some ⟨0x01, []⟩) (by decide)

theorem witness_RejectedFrameIsRescanned :
    (∃ t, step (mk (sr .acc false [0x01, 0x00, 0xDB] []) { rx := some 0x04 }) = .next t
      ∧ (t.wires.exam == some 0x04) = true)
    ∧ [0x01, 0x00, 0xDB] ++ [0x04] = 0x01 :: 0x00 :: [0xDB, (0x04 : Byte)]
    ∧ verify ([0x75, 0x65] ++ [0x01, 0x00, 0xDB] ++ [0x04]) = false :=
  ⟨next_of_nextIs (P := fun t => t.wires.exam == some 0x04) (by decide), rfl, by decide⟩

theorem witness_RescanQueueMakesProgress :
    ∃ t, step (mk (sr .scan false [] [0xAA, 0x06]) { rx := some 0x75 }) = .next t
      ∧ (t.wires.exam == some 0xAA) = true :=
  next_of_nextIs (P := fun t => t.wires.exam == some 0xAA) (by decide)

/-- A queue of two bytes drains in two cycles; an input list without a reset. -/
theorem witness_InputStallDrainsTheQueueAndEnds :
    Invariant { mk (sr .scan false [] [0xAA, 0x06]) {} with ports := List.replicate 33930 {} }
    ∧ ∀ k, k < 33930 → (inputAt { mk (sr .scan false [] [0xAA, 0x06]) {} with
        ports := List.replicate 33930 {} } k).rst = false := by
  refine ⟨⟨⟨fun _ => rfl, (fun h => by cases h), (fun h => by cases h), by decide⟩,
    fun p hp => by cases hp⟩, ?_⟩
  intro k hk
  simp only [inputAt, List.getElem?_replicate, if_pos hk]
  rfl

/-- Two states that differ in CC and in the strobes of CC, with the same byte transferred. -/
theorem witness_ReassemblerDependsOnItsInputsOnly :
    (∃ t, step (mk .reset { rx := some 0x75 }) = .next t ∧ (t.wires.taken == some 0x75) = true)
    ∧ ∃ t, step (mk (cc (ping 3 .tx 0)) { rx := some 0x75, tick := true }) = .next t
      ∧ (t.wires.taken == some 0x75) = true :=
  ⟨next_of_nextIs (P := fun t => t.wires.taken == some 0x75) (by decide),
    next_of_nextIs (P := fun t => t.wires.taken == some 0x75) (by decide)⟩

/-- A cycle that emits, and the run of the empty rest. -/
theorem witness_CyclesComputeTheStreamRun :
    ∃ t, step (mk (sr .acc false [0x01, 0x00, 0xDB] []) { rx := some 0x05 }) = .next t
      ∧ SrRun (t.regs.srRep ++ []) t.regs.sr [] srReset := by
  obtain ⟨t, h, ht⟩ := next_of_nextIs (s := mk (sr .acc false [0x01, 0x00, 0xDB] []) { rx := some 0x05 })
    (P := fun t => t.regs.srRep == [] && t.regs.sr == srReset) (by decide)
  simp only [Bool.and_eq_true, beq_iff_eq] at ht
  exact ⟨t, h, by rw [ht.1, ht.2]; exact SrRun.done _⟩

theorem witness_StreamRunEndsWithOneResult : SrRun [0x75] srReset [] ⟨.scan, true, []⟩ :=
  SrRun.examine 0x75 [] srReset ⟨.scan, true, []⟩ [] (SrRun.done _)

theorem witness_ExtraByteBeforeAFrameIsHarmless : ([] : List Byte).length ≤ 255 := by decide

/-- The shortest and the longest payload. -/
theorem witness_RequestOperationsAnswer :
    (mk .reset { req := some ⟨0x01, [], 10⟩ }).inp.req = some ⟨0x01, [], 10⟩
    ∧ (mk .reset { req := some ⟨0x01, List.replicate 255 0x00, 10⟩ }).inp.req
        = some ⟨0x01, List.replicate 255 0x00, 10⟩
    ∧ (List.replicate 255 (0x00 : Byte)).length ≤ 255 :=
  ⟨rfl, rfl, by decide +kernel⟩

theorem witness_TransmitOperationsAnswer :
    (mk (cc (ping 3 .tx 5)) { txReady := true }).regs.cc = some (ping 3 .tx 5)
    ∧ (ping 3 .tx 5).txf[(ping 3 .tx 5).txi]? = some 0x05
    ∧ completionDue (mk (cc (ping 3 .tx 5)) { txReady := true }) = false
    ∧ completionDue (mk (cc (ping 1 .tx 5)) { txReady := true, tick := true }) = true := by decide

theorem witness_RouteOperationsAnswer :
    emitted (mk (atReply (ping 1 .wait 6)) { rx := some 0x6A }) = some ⟨0x01, [0x04, 0xF1, 0x01, 0x00]⟩
    ∧ (mk (atReply (ping 1 .wait 6)) { rx := some 0x6A }).cfgReply 0x01 ⟨0x01, [0x04, 0xF1, 0x01, 0x00]⟩
        = some 0x00 := by decide

theorem witness_CompletionOperationsAnswer :
    (mk (atReply (ping 1 .wait 6)) { rx := some 0x6A }).regs.cc = some (ping 1 .wait 6)
    ∧ replyAck (mk (atReply (ping 1 .wait 6)) { rx := some 0x6A }) = some 0x00 := by decide

theorem witness_TickAndHoldAnswer :
    (mk (cc (ping 3 .wait 6)) {}).regs.cc = some (ping 3 .wait 6)
    ∧ (mk (cc (ping 3 .wait 6)) {}).nxt.cc = some (ping 3 .wait 6) := by decide

theorem witness_IdleSlotIsNeverRead : (mk .reset {}).regs.cc = none := by decide

theorem witness_StatusOutputsShowTheStartState :
    ∃ t, step (mk (cc (ping 3 .tx 1)) {}) = .next t ∧ (t.out.busy && t.out.tx == some 0x65) = true :=
  next_of_nextIs (P := fun t => t.out.busy && t.out.tx == some 0x65) (by decide)

/-- An answer of each kind, the longest accepted payload and the shortest refused one among them. -/
theorem witness_RequestIsAnsweredAgainstTheStartState :
    (∃ t, step (mk .reset { req := some ⟨0x01, List.replicate 255 0x00, 1⟩ }) = .next t
      ∧ (t.out.rq == some .accepted) = true)
    ∧ (∃ t, step (mk .reset { req := some ⟨0x01, List.replicate 256 0x00, 1⟩ }) = .next t
      ∧ (t.out.rq == some .invalidArgument) = true)
    ∧ ∃ t, step (mk (cc (ping 1 .tx 0)) { req := some ⟨0x01, [], 1⟩ }) = .next t
      ∧ (t.out.rq == some .alreadyPending) = true :=
  ⟨next_of_nextIs (P := fun t => t.out.rq == some .accepted) (by decide +kernel),
    next_of_nextIs (P := fun t => t.out.rq == some .invalidArgument) (by decide +kernel),
    next_of_nextIs (P := fun t => t.out.rq == some .alreadyPending) (by decide)⟩

theorem witness_FreeSlotTakesTheAcceptedCommand :
    (mk .reset { req := some ⟨0x01, [], 10⟩ }).regs.cc = none
    ∧ ∃ t, step (mk .reset { req := some ⟨0x01, [], 10⟩ }) = .next t ∧ t.regs.cc.isSome = true :=
  ⟨rfl, next_of_nextIs (P := fun t => t.regs.cc.isSome) (by decide)⟩

theorem witness_CompletionFollowsThePriority :
    (mk (atReply (ping 1 .wait 6)) { rx := some 0x6A, tick := true }).inp.rst = false
    ∧ ∃ t, step (mk (atReply (ping 1 .wait 6)) { rx := some 0x6A, tick := true }) = .next t
      ∧ (t.out.cmp == some ⟨.ok, 0x00, 0x01⟩) = true :=
  ⟨rfl, next_of_nextIs (P := fun t => t.out.cmp == some ⟨.ok, 0x00, 0x01⟩) (by decide)⟩

/-- A cycle that frees the slot, and one that does not. -/
theorem witness_SlotIsFreedExactlyByCompletion :
    (∃ t, step (mk (cc (ping 1 .wait 6)) { tick := true }) = .next t
      ∧ (t.regs.cc == none && t.out.cmp.isSome) = true)
    ∧ ∃ t, step (mk (cc (ping 2 .wait 6)) { tick := true }) = .next t
      ∧ (t.regs.cc.isSome && t.out.cmp == none) = true :=
  ⟨next_of_nextIs (P := fun t => t.regs.cc == none && t.out.cmp.isSome) (by decide),
    next_of_nextIs (P := fun t => t.regs.cc.isSome && t.out.cmp == none) (by decide)⟩

/-- The premises at the timers 2 and 1 with a tick, and without one. -/
theorem witness_DeadlineCountsTicks :
    (replyAck (mk (cc (ping 2 .wait 6)) { tick := true }) = none
      ∧ (mk (cc (ping 2 .wait 6)) { tick := true }).inp.rxErr = false
      ∧ 2 ≤ (ping 2 .wait 6).timer.toNat ∧ (ping 1 .wait 6).timer.toNat ≤ 1)
    ∧ (∃ t, step (mk (cc (ping 2 .wait 6)) { tick := true }) = .next t ∧ (t.out.cmp == none) = true)
    ∧ (∃ t, step (mk (cc (ping 1 .wait 6)) { tick := true }) = .next t ∧ t.out.cmp.isSome = true)
    ∧ ∃ t, step (mk (cc (ping 1 .wait 6)) {}) = .next t ∧ (t.out.cmp == none) = true :=
  ⟨by decide, next_of_nextIs (P := fun t => t.out.cmp == none) (by decide),
    next_of_nextIs (P := fun t => t.out.cmp.isSome) (by decide),
    next_of_nextIs (P := fun t => t.out.cmp == none) (by decide)⟩

theorem witness_ZeroTimerBehavesLikeOne :
    (mk (cc (ping 0 .wait 6)) { tick := true }).regs.cc = some (ping 0 .wait 6)
    ∧ (ping 0 .wait 6).timer = 0
    ∧ ∃ t, step (mk (cc (ping 0 .wait 6)) { tick := true }) = .next t ∧ t.out.cmp.isSome = true :=
  ⟨rfl, rfl, next_of_nextIs (P := fun t => t.out.cmp.isSome) (by decide)⟩

/-- A pending ping of timer 1 and one cycle with a tick. -/
theorem witness_PendingCommandCompletesByItsDeadline :
    Invariant (mk (cc (ping 1 .tx 0)) { tick := true })
    ∧ (∀ k, k < 1 → (inputAt (mk (cc (ping 1 .tx 0)) { tick := true }) k).rst = false)
    ∧ max (ping 1 .tx 0).timer.toNat 1 ≤ ticksWithin 1 (mk (cc (ping 1 .tx 0)) { tick := true }) := by
  refine ⟨invariant_ping _ _, ?_, by decide⟩
  intro k hk
  obtain rfl : k = 0 := by omega
  rfl

/-- A byte that moves, and one that is held. -/
theorem witness_TransmitSendsTheFrameInOrder :
    (∃ t, step (mk (cc (ping 3 .tx 5)) { txReady := true }) = .next t
      ∧ (t.wires.sent == some 0x05 && t.regs.cc == some (ping 3 .wait 6)) = true)
    ∧ ∃ t, step (mk (cc (ping 3 .tx 5)) {}) = .next t
      ∧ (t.wires.sent == none && t.regs.cc == some (ping 3 .tx 5)) = true :=
  ⟨next_of_nextIs (P := fun t => t.wires.sent == some 0x05 && t.regs.cc == some (ping 3 .wait 6))
      (by decide),
    next_of_nextIs (P := fun t => t.wires.sent == none && t.regs.cc == some (ping 3 .tx 5)) (by decide)⟩

/-- A frame that is no reply, and one that is. -/
theorem witness_FrameIsForwardedUnlessItIsTheReply :
    (∃ t, step (mk (atReply (ping 3 .tx 0)) { rx := some 0x6A }) = .next t ∧ t.out.fo.isSome = true)
    ∧ ∃ t, step (mk (atReply (ping 3 .wait 6)) { rx := some 0x6A }) = .next t
      ∧ (t.wires.frame.isSome && t.out.fo == none) = true :=
  ⟨next_of_nextIs (P := fun t => t.out.fo.isSome) (by decide),
    next_of_nextIs (P := fun t => t.wires.frame.isSome && t.out.fo == none) (by decide)⟩

theorem witness_ReplyMatchesOnlyAWaitingCommand :
    ∃ t, step (mk (atReply (ping 3 .wait 6)) { rx := some 0x6A }) = .next t
      ∧ (t.wires.ack == some 0x00) = true :=
  next_of_nextIs (P := fun t => t.wires.ack == some 0x00) (by decide)

theorem witness_FrameDuringTransmitIsForwarded :
    (atReply (ping 3 .tx 0)).cc = some (ping 3 .tx 0) ∧ (ping 3 .tx 0).phase = .tx
    ∧ ∃ t, step (mk (atReply (ping 3 .tx 0)) { rx := some 0x6A }) = .next t
      ∧ (t.wires.frame == some ⟨0x01, [0x04, 0xF1, 0x01, 0x00]⟩) = true :=
  ⟨rfl, rfl, next_of_nextIs
    (P := fun t => t.wires.frame == some ⟨0x01, [0x04, 0xF1, 0x01, 0x00]⟩) (by decide)⟩

/-- P4 c18. -/
theorem witness_IdleCorrelatorIgnoresStrobes :
    (mk .reset { rxErr := true, tick := true }).inp.req = none
    ∧ ∃ t, step (mk .reset { rxErr := true, tick := true }) = .next t ∧ (t.out.cmp == none) = true :=
  ⟨rfl, next_of_nextIs (P := fun t => t.out.cmp == none) (by decide)⟩

end Sys2Proof.Tests
end

section
/-! PROOFS. The step as the selected operations between the start and the end of a cycle (R190): each
part of the cycle as an equation, and O7 assembled from them. -/

namespace Sys2Proof.Machine

/-- R79: no state has a reserved bit in its selection word, so the decoder never refuses it. -/
theorem exists_decode_selWord (s : State) : ∃ ops, decode (selWord s) = .ok ops := by
  obtain ⟨hres, -⟩ | ⟨-, -, hdec⟩ | ⟨-, -, hdec⟩ := decode_cases (selWord s)
  · simp at hres
  · exact ⟨_, hdec⟩
  · exact ⟨_, hdec⟩

@[simp] theorem andThen_of_fault (f : Fault) (k : State → Result) : andThen (.fault f) k = .fault f := rfl

@[simp] theorem runOps_nil (u : State) : runOps [] u = .next u := rfl

@[simp] theorem runOps_cons (i : Instr) (rest : List Instr) (u : State) :
    runOps (i :: rest) u = andThen (exec i u) (runOps rest) := rfl

/-- The start of a cycle in which the byte offered to the sink can be read (R155, R190). -/
theorem beginCycle_of_txOffer_ok {s : State} {tx : Option Byte} (h : txOffer s = .ok tx) :
    beginCycle s = .next { s with
      nxt := s.regs
      wires := {}
      out := { rxReady := rxReadyFlag s, busy := busyFlag s, tx := tx } } := by
  rw [beginCycle, h]
  rfl

/-- The start of a cycle in which it cannot (R55). -/
theorem beginCycle_of_txOffer_error {s : State} {f : Fault} (h : txOffer s = .error f) :
    beginCycle s = .fault f := by
  rw [beginCycle, h]

/-- R190: a step begins the cycle, runs the decoded operations, and ends the cycle. -/
theorem step_of_decode_ok {s : State} {ops : List Instr} (h : decode (selWord s) = .ok ops) :
    step s = andThen (beginCycle s) fun t => andThen (runOps ops t) fun u => .next (endCycle u) := by
  rw [step, runCycle, h]

/-- A fault at the start of the cycle comes before any operation. -/
theorem step_of_beginCycle_fault {s : State} {f : Fault} (h : beginCycle s = .fault f) :
    step s = .fault f := by
  rw [step, runCycle, h, andThen_of_fault]

/-- Settles O7: the selection word always decodes, and the step is `beginCycle`, `runOps`, `endCycle`. -/
theorem stepRunsTheSelectedOperations : Obligations.StepRunsTheSelectedOperations := by
  refine ⟨exists_decode_selWord, ?run, ?fault, runOps_nil, runOps_cons⟩
  case run =>
    intro s ops tx hdec htx
    rw [step_of_decode_ok hdec, beginCycle_of_txOffer_ok htx, andThen_of_next]
    rfl
  case fault =>
    intro s f htx
    exact step_of_beginCycle_fault (beginCycle_of_txOffer_error htx)

end Sys2Proof.Machine
end

section
/-! PROOFS. What each operation writes, and what it leaves as it was (R13, R27, R34): an inversion
lemma for every operation that can fault, the frame of each unit's operations, and O10, O11, O14,
O15, O16 and O45 assembled from them. -/

namespace Sys2Proof.Machine

/-! ## The state after reset -/

/-- R29 of the registers after reset: SR scans, and both its buffers are empty. -/
theorem srInvariant_reset : SrInvariant .reset :=
  ⟨fun _ => rfl, nofun, nofun, by decide⟩

/-- R32 of the registers after reset: no command is held. -/
theorem ccInvariant_reset : CcInvariant .reset := nofun

/-- Settles O10. -/
theorem resetStateSatisfiesTheInvariants : Obligations.ResetStateSatisfiesTheInvariants :=
  ⟨srInvariant_reset, ccInvariant_reset⟩

/-- Settles O11: R39's table, register by register. -/
theorem resetStateIsAsTheSpecStates : Obligations.ResetStateIsAsTheSpecStates :=
  ⟨rfl, rfl, rfl, rfl, rfl⟩

/-! ## What an operation that can fault does when it answers -/

theorem execFcEncode_of_some {d : Byte} {p w : List Byte} (h : encodeFrame d p = some w)
    (s : State) :
    execFcEncode d p s = .next (s.setFc (some (.encoded w))) := by
  rw [execFcEncode, h]

theorem execFcEncode_of_none {d : Byte} {p : List Byte} (h : encodeFrame d p = none) (s : State) :
    execFcEncode d p s = .next (s.setFc (some .invalidArgument)) := by
  rw [execFcEncode, h]

/-- R102: FC.ENCODE answers `InvalidArgument` for more than 255 bytes. -/
theorem encodeFrame_of_too_long (d : Byte) {p : List Byte} (h : 255 < p.length) :
    encodeFrame d p = none := by
  rw [encodeFrame_eq, if_neg (by omega)]

theorem withPending_next {s t : State} {k : Pending → Result} (h : withPending s k = .next t) :
    ∃ p, s.regs.cc = some p ∧ k p = .next t := by
  obtain ⟨-, hk⟩ | ⟨p, hp, hk⟩ := withPending_cases s k
  · simp [hk] at h
  · exact ⟨p, hp, hk ▸ h⟩

theorem withPending_of_idle {s : State} (h : s.regs.cc = none) (k : Pending → Result) :
    withPending s k = .fault .idleSlotRead := by
  rw [withPending, h]

theorem execSelReplay_next {s t : State} (h : execSelReplay s = .next t) :
    ∃ b q, s.regs.srRep = b :: q ∧ t = (s.setRep q).setExam (some b) := by
  obtain ⟨-, hp⟩ | ⟨b, q, hq, hp⟩ := repPop_cases s
  · simp [execSelReplay, hp] at h
  · exact ⟨b, q, hq, by simpa [execSelReplay, hp] using h.symm⟩

theorem execSelInput_next {s t : State} (h : execSelInput s = .next t) :
    ∃ b, s.inp.rx = some b ∧ t = (s.setExam (some b)).setTaken (some b) := by
  cases hb : s.inp.rx with
  | none => simp [execSelInput, hb] at h
  | some b => exact ⟨b, rfl, by simpa [execSelInput, hb] using h.symm⟩

theorem execAccEmit_next {b : Byte} {s t : State} (h : execAccEmit b s = .next t) :
    ∃ f, assembleFrame (s.regs.srAcc ++ [b]) = some f ∧ t = backToScan (s.setFrame (some f)) := by
  cases hf : assembleFrame (s.regs.srAcc ++ [b]) with
  | none => simp [execAccEmit, hf] at h
  | some f => exact ⟨f, rfl, by simpa [execAccEmit, hf] using h.symm⟩

theorem execReqAccept_next {s t : State} (h : execReqAccept s = .next t) :
    ∃ r w, s.inp.req = some r ∧ encodeFrame r.desc r.payload = some w
      ∧ t = loadSlot (raiseRq s .accepted) r w := by
  cases hr : s.inp.req with
  | none => simp [execReqAccept, hr] at h
  | some r =>
    cases hw : encodeFrame r.desc r.payload with
    | none => simp [execReqAccept, hr, hw] at h
    | some w => exact ⟨r, w, rfl, hw, by simpa [execReqAccept, hr, hw] using h.symm⟩

theorem completePending_next {s t : State} {st : CmpStatus} (h : completePending s st = .next t) :
    ∃ p, s.regs.cc = some p ∧ t = complete s st 0 p.desc := by
  obtain ⟨p, hp, h⟩ := withPending_next h
  exact ⟨p, hp, (Host.Outcome.next.inj h).symm⟩

theorem execCmpCommandError_next {s t : State} (h : execCmpCommandError s = .next t) :
    ∃ p k, s.regs.cc = some p ∧ replyAck s = some k ∧ t = complete s .commandError k p.desc := by
  obtain ⟨p, hp, h⟩ := withPending_next h
  cases hk : replyAck s with
  | none => simp [hk] at h
  | some k => exact ⟨p, k, hp, rfl, by simpa [hk] using h.symm⟩

theorem execTick_next {s t : State} (h : execTick s = .next t) :
    ∃ p, s.regs.cc = some p
      ∧ t = s.setCc (s.nxt.cc.map fun q => { q with timer := p.timer - 1 }) := by
  obtain ⟨p, hp, h⟩ := withPending_next h
  exact ⟨p, hp, (Host.Outcome.next.inj h).symm⟩

/-- R156: the byte at `cc_txi` has gone, and the slot moves on unless the command completes. -/
theorem execTxByte_next {s t : State} (h : execTxByte s = .next t) :
    ∃ p b, s.regs.cc = some p ∧ p.txf[p.txi]? = some b
      ∧ t = (s.setSent (some b)).setCc (if completionDue s then s.nxt.cc else
          s.nxt.cc.map fun q =>
            { q with txi := p.txi + 1,
                     phase := if p.txi + 1 = p.txf.length then .wait else q.phase }) := by
  obtain ⟨p, hp, h⟩ := withPending_next h
  obtain ⟨-, hm⟩ | ⟨b, hb, hm⟩ := memReadTx_cases p p.txi
  · simp [hm] at h
  · refine ⟨p, b, hp, hb, ?_⟩
    simp only [hm] at h
    split at h <;> rename_i hd <;> cases h
    · simp only [hd, if_true]; rfl
    · simp only [hd, Bool.false_eq_true, if_false]

theorem execRouteReply_next {s t : State} (h : execRouteReply s = .next t) :
    ∃ k, replyAck s = some k ∧ t = (s.setAck (some k)).setFo none := by
  cases hk : replyAck s with
  | none => simp [execRouteReply, hk] at h
  | some k => exact ⟨k, rfl, by simpa [execRouteReply, hk] using h.symm⟩

theorem execForwardFrame_next {s t : State} (h : execForwardFrame s = .next t) :
    ∃ f, emitted s = some f ∧ t = s.setFo (some (frameOut s f)) := by
  cases hf : emitted s with
  | none => simp [execForwardFrame, hf] at h
  | some f => exact ⟨f, rfl, by simpa [execForwardFrame, hf] using h.symm⟩

/-- Settles O16. -/
theorem codecFunctionsAnswerInEveryState : Obligations.CodecFunctionsAnswerInEveryState := by
  intro s
  refine ⟨fun _ => rfl, ?encodes, ?tooLong, fun _ => rfl, fun _ => rfl⟩
  case encodes =>
    intro d p w hw
    exact execFcEncode_of_some hw s
  case tooLong =>
    intro d p hp
    exact execFcEncode_of_none (encodeFrame_of_too_long d hp) s

/-- Settles O45: each of these reads the slot through `withPending`, or asks for a matching reply,
which an idle slot cannot have. -/
theorem idleSlotIsNeverRead : Obligations.IdleSlotIsNeverRead := by
  intro s hc
  have idle : ∀ k, withPending s k = .fault .idleSlotRead := withPending_of_idle hc
  refine ⟨idle _, idle _, idle _, idle _, idle _, idle _, idle _, ?_⟩
  change execRouteReply s = _
  rw [execRouteReply, replyAck_of_idle hc]

/-! ## The frame of each unit's operations -/

/-- SR's half of a cycle as it stands in the state: the internal signals and the registers of S'. -/
def State.srHalf (s : State) : SrHalf :=
  ⟨s.wires.exam, s.wires.taken, s.wires.frame, s.nxt.sr, s.nxt.srRep⟩

/-- Two states agree on SR's half only signal by signal and register by register. -/
theorem srHalf_inj {s t : State} (h : t.srHalf = s.srHalf) :
    t.wires.exam = s.wires.exam ∧ t.wires.taken = s.wires.taken ∧ t.wires.frame = s.wires.frame
    ∧ t.nxt.srMode = s.nxt.srMode ∧ t.nxt.srPre = s.nxt.srPre ∧ t.nxt.srAcc = s.nxt.srAcc
    ∧ t.nxt.srRep = s.nxt.srRep := by
  simpa only [State.srHalf, Regs.sr, SrHalf.mk.injEq, SrState.mk.injEq, and_assoc] using h

/-- What a codec function keeps (R27). -/
structure FcWrites (s t : State) : Prop where
  start : SameStart s t
  nxt   : t.nxt = s.nxt
  out   : t.out = s.out

/-- What SR's operations keep (R34): the slot, every output and the transmitted byte. -/
structure SrWrites (s t : State) : Prop where
  start : SameStart s t
  cc    : t.nxt.cc = s.nxt.cc
  out   : t.out = s.out
  sent  : t.wires.sent = s.wires.sent

/-- What CC's operations keep (R34): SR's half, and the outputs that depend on S alone. -/
structure CcWrites (s t : State) : Prop where
  start  : SameStart s t
  srHalf : t.srHalf = s.srHalf
  tx     : t.out.tx = s.out.tx

theorem SrWrites.refl (s : State) : SrWrites s s := ⟨.refl s, rfl, rfl, rfl⟩

theorem SrWrites.trans {s t u : State} (h : SrWrites s t) (k : SrWrites t u) : SrWrites s u :=
  ⟨h.start.trans k.start, k.cc.trans h.cc, k.out.trans h.out, k.sent.trans h.sent⟩

theorem CcWrites.refl (s : State) : CcWrites s s := ⟨.refl s, rfl, rfl⟩

theorem CcWrites.trans {s t u : State} (h : CcWrites s t) (k : CcWrites t u) : CcWrites s u :=
  ⟨h.start.trans k.start, k.srHalf.trans h.srHalf, k.tx.trans h.tx⟩

/-- A write to no register and no output. -/
theorem fcWrites_setFc (s : State) (r : Option FcResult) : FcWrites s (s.setFc r) :=
  ⟨⟨rfl, rfl, rfl, rfl⟩, rfl, rfl⟩

/-- Any write to SR's registers and signals. -/
theorem srWrites_of_sr (s : State) (m : SrMode) (v : Bool) (a q : List Byte) (e k : Option Byte)
    (f : Option Frame) :
    SrWrites s { s with
      nxt := { s.nxt with srMode := m, srPre := v, srAcc := a, srRep := q }
      wires := { s.wires with exam := e, taken := k, frame := f } } :=
  ⟨⟨rfl, rfl, rfl, rfl⟩, rfl, rfl, rfl⟩

/-- Any write to the slot, to CC's output records and to CC's signals. -/
theorem ccWrites_of_cc (s : State) (p : Option Pending) (rq : Option RqCode) (c : Option Completion)
    (f : Option FrameOut) (k b : Option Byte) :
    CcWrites s { s with
      nxt := { s.nxt with cc := p }
      out := { s.out with rq := rq, cmp := c, fo := f }
      wires := { s.wires with ack := k, sent := b } } :=
  ⟨⟨rfl, rfl, rfl, rfl⟩, rfl, rfl⟩

/-- The groups of SR's operations (R80). -/
def srGroups : List Group := [.srSelect, .srAction]

/-- The groups of CC's operations (R80). -/
def ccGroups : List Group := [.ccRoute, .ccSlot, .ccTransmit, .ccRequest]

/-- R190: SR's groups come before CC's. -/
theorem cycleGroups_eq : cycleGroups = srGroups ++ ccGroups := rfl

theorem group_unit_cases (g : Group) : g ∈ srGroups ∨ g ∈ ccGroups ∨ g = .all := by
  cases g <;> decide

/-- R27: a codec function writes no register and no output. -/
theorem exec_fcWrites {i : Instr} {s t : State} (hi : i.group = none) (h : exec i s = .next t) :
    FcWrites s t := by
  cases i <;> simp only [Instr.group, reduceCtorEq] at hi
  case fcChecksum => cases h; exact fcWrites_setFc s _
  case fcVerify => cases h; exact fcWrites_setFc s _
  case fcDecode => cases h; exact fcWrites_setFc s _
  case fcEncode d p =>
    cases hw : encodeFrame d p with
    | some w => cases (execFcEncode_of_some hw s).symm.trans h; exact fcWrites_setFc s _
    | none => cases (execFcEncode_of_none hw s).symm.trans h; exact fcWrites_setFc s _

/-- R34: an SR operation writes SR's registers and signals only. -/
theorem exec_srWrites {i : Instr} {g : Group} {s t : State} (hg : g ∈ srGroups)
    (hi : i.group = some g) (h : exec i s = .next t) : SrWrites s t := by
  cases i <;> cases hi <;> simp [srGroups] at hg
  case selReplay =>
    obtain ⟨b, q, -, rfl⟩ := execSelReplay_next h
    exact srWrites_of_sr s _ _ _ _ _ _ _
  case selInput =>
    obtain ⟨b, -, rfl⟩ := execSelInput_next h
    exact srWrites_of_sr s _ _ _ _ _ _ _
  case accEmit b =>
    obtain ⟨f, -, rfl⟩ := execAccEmit_next h
    exact srWrites_of_sr s _ _ _ _ _ _ _
  all_goals cases h; exact srWrites_of_sr s _ _ _ _ _ _ _

/-- R34: a CC operation writes the slot, CC's output records and CC's signals only. -/
theorem exec_ccWrites {i : Instr} {g : Group} {s t : State} (hg : g ∈ ccGroups)
    (hi : i.group = some g) (h : exec i s = .next t) : CcWrites s t := by
  cases i <;> cases hi <;> simp [ccGroups] at hg
  case reqAccept =>
    obtain ⟨r, w, -, -, rfl⟩ := execReqAccept_next h
    exact ccWrites_of_cc s _ _ _ _ _ _
  case cmpCommandError =>
    obtain ⟨p, k, -, -, rfl⟩ := execCmpCommandError_next h
    exact ccWrites_of_cc s _ _ _ _ _ _
  case tick =>
    obtain ⟨p, -, rfl⟩ := execTick_next h
    exact ccWrites_of_cc s _ _ _ _ _ _
  case txByte =>
    obtain ⟨p, b, -, -, rfl⟩ := execTxByte_next h
    exact ccWrites_of_cc s _ _ _ _ _ _
  case routeReply =>
    obtain ⟨k, -, rfl⟩ := execRouteReply_next h
    exact ccWrites_of_cc s _ _ _ _ _ _
  case forwardFrame =>
    obtain ⟨f, -, rfl⟩ := execForwardFrame_next h
    exact ccWrites_of_cc s _ _ _ _ _ _
  case cmpOk | cmpRxIoError | cmpTxIoError | cmpTimeout =>
    obtain ⟨p, -, rfl⟩ := completePending_next h
    exact ccWrites_of_cc s _ _ _ _ _ _
  case reqAlreadyPending | reqInvalidArgument | reqNone | hold | txStall =>
    cases h
    exact ccWrites_of_cc s _ _ _ _ _ _

/-- RESET is the one operation of its group (R80). -/
theorem eq_reset_of_group {i : Instr} (hi : i.group = some .all) : i = .reset := by
  cases i <;> cases hi
  rfl

/-- R13, R37: no operation writes S, the inputs or the configuration. -/
theorem exec_sameStart {i : Instr} {s t : State} (h : exec i s = .next t) : SameStart s t := by
  cases hi : i.group with
  | none => exact (exec_fcWrites hi h).start
  | some g =>
    obtain hg | hg | rfl := group_unit_cases g
    · exact (exec_srWrites hg hi h).start
    · exact (exec_ccWrites hg hi h).start
    · obtain rfl := eq_reset_of_group hi
      cases h
      exact ⟨rfl, rfl, rfl, rfl⟩

/-- Settles O15: the frame of an operation's unit, read off by group. -/
theorem operationsWriteTheirOwnUnitOnly : Obligations.OperationsWriteTheirOwnUnitOnly := by
  intro i s t h
  have start := exec_sameStart h
  refine ⟨start.regs, start.ports, start.cycle, ?codec, ?sr, ?cc⟩
  case codec =>
    intro hi
    have w := exec_fcWrites hi h
    exact ⟨w.nxt, w.out⟩
  case sr =>
    intro hi
    have w : SrWrites s t := by
      obtain hi | hi := hi <;> exact exec_srWrites (by decide) hi h
    exact ⟨w.cc, w.out⟩
  case cc =>
    intro hi
    have w : CcWrites s t := by
      obtain hi | hi | hi | hi := hi <;> exact exec_ccWrites (by decide) hi h
    obtain ⟨-, -, -, hm, hp, ha, hr⟩ := srHalf_inj w.srHalf
    exact ⟨hm, hp, ha, hr⟩

/-- R13: so no sequence of operations does. -/
theorem runOps_sameStart {ops : List Instr} {s t : State} (h : runOps ops s = .next t) :
    SameStart s t := by
  induction ops generalizing s with
  | nil => cases h; exact .refl _
  | cons i ops ih =>
    obtain ⟨u, hu, ht⟩ := runOps_cons_next h
    exact (exec_sameStart hu).trans (ih ht)

theorem beginCycle_sameStart {s t : State} (h : beginCycle s = .next t) : SameStart s t := by
  obtain ⟨tx, -, rfl⟩ := beginCycle_next h
  exact ⟨rfl, rfl, rfl, rfl⟩

/-- R37: a whole cycle keeps the configuration. -/
theorem step_cfg {s t : State} (h : step s = .next t) : t.cfg = s.cfg := by
  obtain ⟨u, v, ops, hu, -, hv, rfl⟩ := step_next h
  rw [endCycle_cfg, (runOps_sameStart hv).cfg, (beginCycle_sameStart hu).cfg]

/-- Settles O14. -/
theorem configurationIsFixed : Obligations.ConfigurationIsFixed :=
  ⟨fun _ _ h => step_cfg h, fun _ _ _ h => (exec_sameStart h).cfg⟩

end Sys2Proof.Machine
end

section
/-! PROOFS. SR's half of a cycle: the step's operations group by group (R80, R190), the operations
that each SR group selects, and that a cycle without reset gives SR's half of R190 (`refSr`); O35
from it. -/

namespace Sys2Proof.Machine

/-! ## The cycle group by group -/

/-- What a row of a group selects is an operation of the group (R80). -/
theorem group_of_mem_rows {g : Group} {r : Row} (hr : r ∈ g.rows) (b : Byte) :
    (r.op b).group = some g := by
  cases g <;>
    simp only [Group.rows, rowsSrSelect, rowsSrAction, rowsCcRoute, rowsCcSlotEvent, rowsCcRequest,
      List.cons_append, List.nil_append, List.mem_cons, List.not_mem_nil, or_false] at hr <;>
    rcases hr with rfl | rfl | rfl | rfl | rfl | rfl | rfl <;> rfl

theorem group_of_decodeGroup {g : Group} {w : Sel} {i : Instr} (h : decodeGroup g w = some i) :
    i.group = some g := by
  obtain ⟨r, hr, rfl⟩ := Option.map_eq_some_iff.1 h
  exact group_of_mem_rows (List.mem_of_find?_eq_some hr) _

/-- The word of a cycle without reset decodes to one operation from each group at most (R80). -/
theorem decode_selWord {s : State} (hr : s.inp.rst = false) :
    decode (selWord s) = .ok (cycleGroups.filterMap (decodeGroup · (selWord s))) := by
  simp [decode, decodeGroup_all, hr]

/-- R230: in a reset cycle RESET is selected alone. -/
theorem decode_selWord_of_rst {s : State} (hr : s.inp.rst = true) :
    decode (selWord s) = .ok [.reset] := by
  simp [decode, decodeGroup_all, hr]

/-- Run what the cycle that starts in `s` selects in a group. -/
def runGroup (s : State) (g : Group) (u : State) : Result :=
  runOps (decodeGroup g (selWord s)).toList u

/-- Run what it selects in each of the groups, in order. -/
def runGroups (s : State) (gs : List Group) (u : State) : Result :=
  runOps (gs.filterMap (decodeGroup · (selWord s))) u

theorem runGroup_of_some {s : State} {g : Group} {i : Instr}
    (h : decodeGroup g (selWord s) = some i) (u : State) : runGroup s g u = exec i u := by
  rw [runGroup, h, Option.toList_some, runOps_cons]
  cases exec i u <;> rfl

theorem runGroup_of_none {s : State} {g : Group} (h : decodeGroup g (selWord s) = none)
    (u : State) :
    runGroup s g u = .next u := by
  rw [runGroup, h, Option.toList_none, runOps_nil]

/-- A group writes what its one operation writes, or nothing. -/
theorem runGroup_cases {s u v : State} {g : Group} (h : runGroup s g u = .next v) :
    v = u ∨ ∃ i, i.group = some g ∧ exec i u = .next v := by
  cases hi : decodeGroup g (selWord s) with
  | none => exact .inl (Host.Outcome.next.inj ((runGroup_of_none hi u).symm.trans h)).symm
  | some i => exact .inr ⟨i, group_of_decodeGroup hi, (runGroup_of_some hi u).symm.trans h⟩

theorem runGroups_append (s : State) (gs hs : List Group) (u : State) :
    runGroups s (gs ++ hs) u = andThen (runGroups s gs u) (runGroups s hs) := by
  rw [runGroups, List.filterMap_append, runOps_append]
  rfl

theorem runGroups_cons_next {s u w : State} {g : Group} {gs : List Group}
    (h : runGroups s (g :: gs) u = .next w) :
    ∃ v, runGroup s g u = .next v ∧ runGroups s gs v = .next w := by
  have split : runGroups s (g :: gs) u = andThen (runGroup s g u) (runGroups s gs) := by
    rw [← List.singleton_append, runGroups_append, runGroups, runGroup, List.filterMap_cons]
    cases decodeGroup g (selWord s) <;> rfl
  exact andThen_next (split ▸ h)

theorem runGroup_srWrites {s u v : State} {g : Group} (hg : g ∈ srGroups)
    (h : runGroup s g u = .next v) : SrWrites u v := by
  obtain rfl | ⟨i, hi, h⟩ := runGroup_cases h
  · exact .refl _
  · exact exec_srWrites hg hi h

theorem runGroup_ccWrites {s u v : State} {g : Group} (hg : g ∈ ccGroups)
    (h : runGroup s g u = .next v) : CcWrites u v := by
  obtain rfl | ⟨i, hi, h⟩ := runGroup_cases h
  · exact .refl _
  · exact exec_ccWrites hg hi h

theorem runGroups_srWrites {s u v : State} {gs : List Group} (hgs : gs ⊆ srGroups)
    (h : runGroups s gs u = .next v) : SrWrites u v := by
  induction gs generalizing u with
  | nil => cases h; exact .refl _
  | cons g gs ih =>
    obtain ⟨hg, hgs⟩ := List.cons_subset.1 hgs
    obtain ⟨w, hw, hv⟩ := runGroups_cons_next h
    exact (runGroup_srWrites hg hw).trans (ih hgs hv)

theorem runGroups_ccWrites {s u v : State} {gs : List Group} (hgs : gs ⊆ ccGroups)
    (h : runGroups s gs u = .next v) : CcWrites u v := by
  induction gs generalizing u with
  | nil => cases h; exact .refl _
  | cons g gs ih =>
    obtain ⟨hg, hgs⟩ := List.cons_subset.1 hgs
    obtain ⟨w, hw, hv⟩ := runGroups_cons_next h
    exact (runGroup_ccWrites hg hw).trans (ih hgs hv)

/-- The state in which a cycle's operations start (R190), `tx` being offered to the sink. -/
def State.begun (s : State) (tx : Option Byte) : State :=
  { s with
    nxt := s.regs
    wires := {}
    out := { rxReady := rxReadyFlag s, busy := busyFlag s, tx := tx } }

@[simp] theorem begun_nxt (s : State) (tx : Option Byte) : (s.begun tx).nxt = s.regs := rfl
@[simp] theorem begun_wires (s : State) (tx : Option Byte) : (s.begun tx).wires = {} := rfl
@[simp] theorem begun_out_tx (s : State) (tx : Option Byte) : (s.begun tx).out.tx = tx := rfl

theorem begun_sameStart (s : State) (tx : Option Byte) : SameStart s (s.begun tx) :=
  ⟨rfl, rfl, rfl, rfl⟩

theorem beginCycle_eq_begun {s u : State} (h : beginCycle s = .next u) :
    ∃ tx, txOffer s = .ok tx ∧ u = s.begun tx := by
  obtain ⟨tx, htx, rfl⟩ := beginCycle_next h
  exact ⟨tx, htx, rfl⟩

/-- R190: a cycle without reset is SR's groups, then CC's, between its start and its end. -/
theorem step_next_halves {s t : State} (h : step s = .next t) (hr : s.inp.rst = false) :
    ∃ tx v w, txOffer s = .ok tx ∧ runGroups s srGroups (s.begun tx) = .next v
      ∧ runGroups s ccGroups v = .next w ∧ t = endCycle w := by
  obtain ⟨u, w, ops, hu, hd, hw, rfl⟩ := step_next h
  obtain ⟨tx, htx, rfl⟩ := beginCycle_eq_begun hu
  cases (decode_selWord hr).symm.trans hd
  rw [cycleGroups_eq] at hw
  obtain ⟨v, hv, hw⟩ := andThen_next ((runGroups_append s srGroups ccGroups _).symm.trans hw)
  exact ⟨tx, v, w, htx, hv, hw, rfl⟩

/-- R230, R231: a reset cycle ends in the reset registers with no signal set. -/
theorem step_next_of_rst {s t : State} (h : step s = .next t) (hr : s.inp.rst = true) :
    t.regs = .reset ∧ t.wires = {} ∧ t.out = .inactive := by
  obtain ⟨u, w, ops, -, hd, hw, rfl⟩ := step_next h
  cases (decode_selWord_of_rst hr).symm.trans hd
  cases hw
  exact ⟨rfl, rfl, rfl⟩

/-! ## The operations of SR's groups -/

/-- R121: the byte selection of a cycle, its three cases beside R190's. -/
theorem srSelect_cases {s : State} (hr : s.inp.rst = false) :
    (∃ b q, s.regs.srRep = b :: q ∧ examined s = some b
      ∧ decodeGroup .srSelect (selWord s) = some .selReplay
      ∧ refSr s.regs s.inp = srHalfOf s.regs.sr b none q)
    ∨ (∃ b, s.regs.srRep = [] ∧ s.inp.rx = some b ∧ examined s = some b
      ∧ decodeGroup .srSelect (selWord s) = some .selInput
      ∧ refSr s.regs s.inp = srHalfOf s.regs.sr b (some b) [])
    ∨ (s.regs.srRep = [] ∧ examined s = none
      ∧ decodeGroup .srSelect (selWord s) = some .selNone
      ∧ refSr s.regs s.inp = ⟨none, none, none, s.regs.sr, []⟩) := by
  rw [decodeGroup_srSelect]
  cases hq : s.regs.srRep with
  | cons b q => exact .inl ⟨b, q, by simp [examined, refSr, selBits, hr, hq]⟩
  | nil =>
    cases he : s.inp.rxErr with
    | true => exact .inr (.inr (by simp [examined, refSr, selBits, hr, hq, he]))
    | false =>
      cases hx : s.inp.rx with
      | some b => exact .inr (.inl ⟨b, by simp [examined, refSr, selBits, hr, hq, he, hx]⟩)
      | none => exact .inr (.inr (by simp [examined, refSr, selBits, hr, hq, he, hx]))

/-- R122 to R126: the operation by which SR acts on an examined byte. -/
def srActionOp (st : SrState) (b : Byte) : Instr :=
  match st.mode with
  | .scan =>
    if st.pre = true ∧ b = 0x65 then .scanSync2
    else if b = 0x75 then .scanSync1 else .scanOther b
  | .acc =>
    if frameComplete (st.acc ++ [b]) then
      if candidateVerifies (st.acc ++ [b]) then .accEmit b else .accRescan b
    else .accAppend b

/-- R80: the SR_ACTION group selects it. -/
theorem decodeGroup_srAction_selWord {s : State} (hr : s.inp.rst = false) :
    decodeGroup .srAction (selWord s) = (examined s).map (srActionOp s.regs.sr) := by
  rw [decodeGroup_srAction]
  cases hb : examined s with
  | none => simp [selBits, hb]
  | some b =>
    cases hm : s.regs.srMode with
    | scan => simp [selBits, srActionOp, Regs.sr, hr, hb, hm, ← apply_ite some]
    | acc =>
      have hc : candidate s = some (s.regs.srAcc ++ [b]) := by simp [candidate, hm, hb]
      cases hf : frameComplete (s.regs.srAcc ++ [b]) with
      | false => simp [selBits, srActionOp, Regs.sr, hr, hb, hm, hc, hf]
      | true =>
        cases hv : candidateVerifies (s.regs.srAcc ++ [b]) <;>
          simp [selBits, srActionOp, Regs.sr, hr, hb, hm, hc, hf, hv]

/-- R134's action in ACC, through the tests of R124. -/
theorem srAct_of_acc {st : SrState} (h : st.mode = .acc) (b : Byte) :
    srAct st b =
      if frameComplete (st.acc ++ [b]) then
        if candidateVerifies (st.acc ++ [b]) then
          ⟨⟨.scan, false, []⟩, assembleFrame (st.acc ++ [b]), []⟩
        else ⟨⟨.scan, false, []⟩, none, st.acc ++ [b]⟩
      else ⟨⟨.acc, st.pre, st.acc ++ [b]⟩, none, []⟩ := by
  by_cases hf : frameComplete (st.acc ++ [b]) = true
  · rw [if_pos hf, assembleFrame_of_complete hf]
    rw [frameComplete_eq, decide_eq_true_eq] at hf
    simp only [srAct, h, if_pos hf]
    rfl
  · rw [if_neg hf]
    rw [frameComplete_eq, decide_eq_true_eq] at hf
    simp only [srAct, h, if_neg hf]

/-- The SR action as an operation does what R134's action says: on the registers, on the queue as
the selection left it, and in the frame handed to CC. -/
theorem exec_srActionOp {u v : State} {b : Byte} (hst : u.nxt.sr = u.regs.sr)
    (hf : u.wires.frame = none) (h : exec (srActionOp u.regs.sr b) u = .next v) :
    v.srHalf = ⟨u.wires.exam, u.wires.taken, (srAct u.regs.sr b).out, (srAct u.regs.sr b).st,
      (srAct u.regs.sr b).requeue ++ u.nxt.srRep⟩ := by
  obtain ⟨hmode, hpre, hacc⟩ : u.nxt.srMode = u.regs.srMode ∧ u.nxt.srPre = u.regs.srPre
      ∧ u.nxt.srAcc = u.regs.srAcc := by simpa [Regs.sr] using hst
  cases hm : u.regs.sr.mode with
  | scan =>
    simp only [srActionOp, hm] at h
    simp only [srAct, hm]
    replace hmode := hmode.trans hm
    split at h
    case isTrue hc =>
      rw [if_pos hc]
      cases h
      simp [State.srHalf, Regs.sr, accClear, hf]
    case isFalse hc =>
      rw [if_neg hc]
      split at h
      case isTrue hc =>
        rw [if_pos hc]
        cases h
        simp [State.srHalf, Regs.sr, hf, hmode, hacc]
      case isFalse hc =>
        rw [if_neg hc]
        cases h
        simp [State.srHalf, Regs.sr, hf, hmode, hacc]
  | acc =>
    simp only [srActionOp, hm] at h
    rw [srAct_of_acc hm]
    split at h
    case isTrue hc =>
      rw [if_pos hc]
      split at h
      case isTrue hv =>
        rw [if_pos hv]
        obtain ⟨f, hasm, rfl⟩ := execAccEmit_next h
        simp [State.srHalf, Regs.sr, backToScan, accClear, ← hasm]
      case isFalse hv =>
        rw [if_neg hv]
        cases h
        simp [State.srHalf, Regs.sr, backToScan, accClear, repPrepend, hf]
    case isFalse hc =>
      rw [if_neg hc]
      cases h
      simp [State.srHalf, Regs.sr, accAppend, hf, hpre, hmode.trans hm]

/-- SR's action group, over a state in which the selection has left SR's registers as in S. -/
theorem runGroup_srAction {s u v : State} {b : Byte} (h : runGroup s .srAction u = .next v)
    (hr : s.inp.rst = false) (hb : examined s = some b) (hregs : u.regs = s.regs)
    (hst : u.nxt.sr = s.regs.sr) (he : u.wires.exam = some b) (hf : u.wires.frame = none) :
    v.srHalf = srHalfOf s.regs.sr b u.wires.taken u.nxt.srRep := by
  have hop : decodeGroup .srAction (selWord s) = some (srActionOp u.regs.sr b) := by
    rw [decodeGroup_srAction_selWord hr, hb, hregs, Option.map_some]
  rw [runGroup_of_some hop] at h
  rw [exec_srActionOp (hst.trans (congrArg Regs.sr hregs.symm)) hf h, he, hregs]
  rfl

/-- SR's groups give SR's half of R190. -/
theorem runGroups_srGroups {s v : State} {tx : Option Byte} (hr : s.inp.rst = false)
    (h : runGroups s srGroups (s.begun tx) = .next v) : v.srHalf = refSr s.regs s.inp := by
  obtain ⟨u, hu, h⟩ := runGroups_cons_next h
  obtain ⟨v, hv, h⟩ := runGroups_cons_next h
  cases h
  obtain ⟨b, q, hq, hb, hop, href⟩ | ⟨b, hq, hx, hb, hop, href⟩ | ⟨hq, hb, hop, href⟩ :=
    srSelect_cases hr
  · rw [runGroup_of_some hop] at hu
    obtain ⟨b', q', hq', rfl⟩ := execSelReplay_next hu
    cases hq.symm.trans hq'
    rw [href, runGroup_srAction hv hr hb rfl rfl rfl rfl]
    rfl
  · rw [runGroup_of_some hop] at hu
    obtain ⟨b', hx', rfl⟩ := execSelInput_next hu
    cases hx.symm.trans hx'
    rw [href, runGroup_srAction hv hr hb rfl rfl rfl rfl]
    simp [hq]
  · rw [runGroup_of_some hop] at hu
    have hnone : decodeGroup .srAction (selWord s) = none := by
      rw [decodeGroup_srAction_selWord hr, hb, Option.map_none]
    rw [runGroup_of_none hnone] at hv
    cases hu
    cases hv
    rw [href, ← hq]
    rfl

/-- R190: a cycle without reset ends with SR's half as the cycle step of the spec has it. -/
theorem step_srHalf {s t : State} (h : step s = .next t) (hr : s.inp.rst = false) :
    t.srHalf = refSr s.regs s.inp := by
  obtain ⟨tx, v, w, -, hv, hw, rfl⟩ := step_next_halves h hr
  have cc : w.srHalf = v.srHalf := (runGroups_ccWrites (List.Subset.refl _) hw).srHalf
  exact cc.trans (runGroups_srGroups hr hv)

/-! ## What SR depends on -/

/-- What SR does with an empty queue, by the byte taken from the source, if one is (R121). -/
def srHalfOfTaken (st : SrState) : Option Byte → SrHalf
  | some b => srHalfOf st b (some b) []
  | none => ⟨none, none, none, st, []⟩

/-- R135: with the queue empty, SR's half depends on the inputs by the byte taken alone. -/
theorem refSr_of_empty {r : Regs} (hq : r.srRep = []) (i : CycleIn) :
    refSr r i = srHalfOfTaken r.sr (refSr r i).taken := by
  cases he : i.rxErr <;> cases hx : i.rx <;> simp [refSr, srHalfOf, srHalfOfTaken, hq, he, hx]

/-- R34: SR's half of a cycle is a function of SR's registers and the byte taken. -/
theorem refSr_congr {r r' : Regs} {i i' : CycleIn} (hst : r.sr = r'.sr) (hq : r.srRep = r'.srRep)
    (htaken : (refSr r i).taken = (refSr r' i').taken) : refSr r i = refSr r' i' := by
  cases hrep : r.srRep with
  | cons b q => simp only [refSr, ← hq, hrep, hst]
  | nil =>
    calc refSr r i = srHalfOfTaken r.sr (refSr r i).taken := refSr_of_empty hrep i
      _ = srHalfOfTaken r'.sr (refSr r' i').taken := by rw [hst, htaken]
      _ = refSr r' i' := (refSr_of_empty (hq ▸ hrep) i').symm

/-- After a cycle S' is the state's registers (R13). -/
theorem step_regs {s t : State} (h : step s = .next t) : t.regs = t.nxt := by
  obtain ⟨u, v, ops, -, -, -, rfl⟩ := step_next h
  rfl

/-- Settles O35: a reset cycle ends alike from any state, and any other has `refSr` for its SR
half. -/
theorem reassemblerDependsOnItsInputsOnly : Obligations.ReassemblerDependsOnItsInputsOnly := by
  intro s s' t t' h h' hmode hpre hacc hrep hrst htaken
  cases hr : s.inp.rst with
  | true =>
    obtain ⟨hregs, hwires, -⟩ := step_next_of_rst h hr
    obtain ⟨hregs', hwires', -⟩ := step_next_of_rst h' (hrst ▸ hr)
    simp only [hregs, hregs', hwires, hwires', and_self]
  | false =>
    have half := step_srHalf h hr
    have half' := step_srHalf h' (hrst ▸ hr)
    have htaken : (refSr s.regs s.inp).taken = (refSr s'.regs s'.inp).taken := by
      rw [← half, ← half']
      exact htaken
    have hst : s.regs.sr = s'.regs.sr := by simp only [Regs.sr, hmode, hpre, hacc]
    have heq : t.srHalf = t'.srHalf := by rw [half, half', refSr_congr hst hrep htaken]
    obtain ⟨hexam, -, hframe, hmode', hpre', hacc', hrep'⟩ := srHalf_inj heq
    rw [step_regs h, step_regs h']
    exact ⟨hmode', hpre', hacc', hrep', hframe, hexam⟩

end Sys2Proof.Machine
end

section
/-! PROOFS. CC's half of a cycle with a command pending: the operations that the slot, transmit and
request groups select, what they do to the slot, and O54 from it. -/

namespace Sys2Proof.Machine

/-! ## The operations of CC's groups with a command pending -/

/-- R168: when the pending command completes. -/
theorem completionDue_of_pending {s : State} {p : Pending} (hc : s.regs.cc = some p) :
    completionDue s = true ↔ (replyAck s).isSome = true ∨ s.inp.rxErr = true
      ∨ (p.phase = .tx ∧ s.inp.txErr = true) ∨ (s.inp.tick = true ∧ p.timer.toNat ≤ 1) := by
  simp [completionDue, hc, or_assoc]

/-- R162 to R172 as the operation that the CC_SLOT group selects, in the order of R167. -/
theorem decodeGroup_ccSlot_selWord {s : State} {p : Pending} (hr : s.inp.rst = false)
    (hc : s.regs.cc = some p) :
    decodeGroup .ccSlot (selWord s) = some
      (if replyAck s = some 0 then .cmpOk
       else if (replyAck s).isSome = true then .cmpCommandError
       else if s.inp.rxErr = true then .cmpRxIoError
       else if p.phase = .tx ∧ s.inp.txErr = true then .cmpTxIoError
       else if s.inp.tick = true ∧ p.timer.toNat ≤ 1 then .cmpTimeout
       else if s.inp.tick = true then .tick else .hold) := by
  rw [decodeGroup_ccSlot]
  cases hk : replyAck s with
  | some k => by_cases h0 : k = 0#8 <;> simp [selBits, hr, hc, hk, h0]
  | none =>
    cases hp : p.phase <;> simp [selBits, hr, hc, hk, hp, and_comm, ← apply_ite some]

/-- The completions of R168. -/
def completionOps : List Instr :=
  [.cmpOk, .cmpCommandError, .cmpRxIoError, .cmpTxIoError, .cmpTimeout]

/-- A due completion selects one of them. -/
theorem decodeGroup_ccSlot_of_due {s : State} {p : Pending} (hr : s.inp.rst = false)
    (hc : s.regs.cc = some p) (hd : completionDue s = true) :
    ∃ i ∈ completionOps, decodeGroup .ccSlot (selWord s) = some i := by
  rw [decodeGroup_ccSlot_selWord hr hc]
  refine ⟨_, ?_, rfl⟩
  rw [completionDue_of_pending hc] at hd
  split_ifs <;> simp_all [completionOps]

/-- With none due, the slot only counts its ticks (R170, R172). -/
theorem decodeGroup_ccSlot_of_not_due {s : State} {p : Pending} (hr : s.inp.rst = false)
    (hc : s.regs.cc = some p) (hd : completionDue s = false) :
    decodeGroup .ccSlot (selWord s) = some (if s.inp.tick = true then .tick else .hold) := by
  obtain ⟨hk, he, htx, ht⟩ : (replyAck s).isSome = false ∧ s.inp.rxErr = false
      ∧ ¬ (p.phase = .tx ∧ s.inp.txErr = true) ∧ ¬ (s.inp.tick = true ∧ p.timer.toNat ≤ 1) := by
    simpa [completionDue_of_pending hc] using (Bool.eq_false_iff.1 hd)
  have h0 : replyAck s ≠ some 0 := by
    intro h
    simp [h] at hk
  rw [decodeGroup_ccSlot_selWord hr hc, if_neg h0, hk, he, if_neg Bool.false_ne_true,
    if_neg Bool.false_ne_true, if_neg htx, if_neg ht]

/-- R156, R157: a command in TX selects the byte or the stall, one in WAIT neither. -/
theorem decodeGroup_ccTransmit_selWord {s : State} {p : Pending} (hr : s.inp.rst = false)
    (hc : s.regs.cc = some p) :
    decodeGroup .ccTransmit (selWord s) =
      if p.phase = .tx then
        some (if s.inp.txReady = true ∧ s.inp.txErr = false then .txByte else .txStall)
      else none := by
  rw [decodeGroup_ccTransmit]
  cases hp : p.phase <;> simp [selBits, hr, hc, hp, ← apply_ite some]

/-- R150, R153: with a command pending a request is dropped, whatever it is. -/
theorem decodeGroup_ccRequest_of_pending {s : State} {p : Pending} (hr : s.inp.rst = false)
    (hc : s.regs.cc = some p) :
    decodeGroup .ccRequest (selWord s) =
      some (if s.inp.req.isSome = true then .reqAlreadyPending else .reqNone) := by
  rw [decodeGroup_ccRequest]
  cases hq : s.inp.req <;> simp [selBits, hr, hc, hq]

/-! ## What they do to the slot and to the byte sent -/

/-- Routing writes no register, and sends nothing (R162, R163). -/
theorem exec_ccRoute {i : Instr} {u v : State} (hi : i.group = some .ccRoute)
    (h : exec i u = .next v) : v.nxt = u.nxt ∧ v.wires.sent = u.wires.sent := by
  cases i <;> simp [Instr.group] at hi
  case routeReply =>
    obtain ⟨k, -, rfl⟩ := execRouteReply_next h
    exact ⟨rfl, rfl⟩
  case forwardFrame =>
    obtain ⟨f, -, rfl⟩ := execForwardFrame_next h
    exact ⟨rfl, rfl⟩

theorem runGroup_ccRoute {s u v : State} (h : runGroup s .ccRoute u = .next v) :
    v.nxt = u.nxt ∧ v.wires.sent = u.wires.sent := by
  obtain rfl | ⟨i, hi, h⟩ := runGroup_cases h
  · exact ⟨rfl, rfl⟩
  · exact exec_ccRoute hi h

/-- R168: a completion frees the slot, and sets no internal signal. -/
theorem exec_completionOps {i : Instr} {u v : State} (hi : i ∈ completionOps)
    (h : exec i u = .next v) : v.nxt.cc = none ∧ v.wires = u.wires := by
  simp only [completionOps, List.mem_cons, List.not_mem_nil, or_false] at hi
  obtain rfl | rfl | rfl | rfl | rfl := hi
  case inr.inl =>
    obtain ⟨p, k, -, -, rfl⟩ := execCmpCommandError_next h
    exact ⟨rfl, rfl⟩
  all_goals
    obtain ⟨p, -, rfl⟩ := completePending_next h
    exact ⟨rfl, rfl⟩

/-- R170: the pending command after the slot operation of a cycle that does not complete it. -/
def Pending.ticked (p : Pending) (i : CycleIn) : Pending :=
  { p with timer := if i.tick then p.timer - 1 else p.timer }

/-- R162 to R172: the slot operation of a pending command completes it, or counts the tick. -/
theorem runGroup_ccSlot {s u v : State} {p : Pending} (h : runGroup s .ccSlot u = .next v)
    (hr : s.inp.rst = false) (hc : s.regs.cc = some p) (hregs : u.regs = s.regs)
    (hnxt : u.nxt.cc = some p) :
    v.wires = u.wires
    ∧ v.nxt.cc = if completionDue s then none else some (p.ticked s.inp) := by
  cases hd : completionDue s with
  | true =>
    obtain ⟨i, hi, hop⟩ := decodeGroup_ccSlot_of_due hr hc hd
    rw [runGroup_of_some hop] at h
    obtain ⟨hfree, hwires⟩ := exec_completionOps hi h
    exact ⟨hwires, hfree⟩
  | false =>
    rw [runGroup_of_some (decodeGroup_ccSlot_of_not_due hr hc hd)] at h
    cases ht : s.inp.tick with
    | true =>
      rw [ht] at h
      obtain ⟨p', hp', rfl⟩ := execTick_next h
      cases hc.symm.trans (hregs ▸ hp')
      exact ⟨rfl, by simp [hnxt, Pending.ticked, ht]⟩
    | false =>
      rw [ht] at h
      cases h
      exact ⟨rfl, by simp [hnxt, Pending.ticked, ht]⟩

/-- R22: the byte at `cc_txi` moves to the sink in the cycle. -/
def txMoves (p : Pending) (i : CycleIn) : Prop :=
  p.phase = .tx ∧ i.txReady = true ∧ i.txErr = false

/-- R156: after a byte that moved, the slot points at the next one, or waits for the reply. -/
def Pending.advance (p q : Pending) : Pending :=
  { q with txi := p.txi + 1, phase := if p.txi + 1 = p.txf.length then .wait else q.phase }

/-- R156: the transmit operation when a byte moves. -/
theorem runGroup_ccTransmit_of_moves {s u v : State} {p : Pending}
    (h : runGroup s .ccTransmit u = .next v) (hr : s.inp.rst = false) (hc : s.regs.cc = some p)
    (hs : SameStart s u) (hm : txMoves p s.inp) :
    (∃ b, p.txf[p.txi]? = some b ∧ v.wires.sent = some b)
    ∧ v.nxt.cc = if completionDue s then u.nxt.cc else u.nxt.cc.map p.advance := by
  obtain ⟨hp, hrdy⟩ := hm
  have hop : decodeGroup .ccTransmit (selWord s) = some .txByte := by
    rw [decodeGroup_ccTransmit_selWord hr hc, if_pos hp, if_pos hrdy]
  rw [runGroup_of_some hop] at h
  obtain ⟨p', b, hp', hb, rfl⟩ := execTxByte_next h
  cases hc.symm.trans (hs.regs ▸ hp')
  rw [hs.completionDue]
  exact ⟨⟨b, hb, rfl⟩, rfl⟩

/-- R157: the transmit operation, or its absence, when no byte moves. -/
theorem runGroup_ccTransmit_of_not_moves {s u v : State} {p : Pending}
    (h : runGroup s .ccTransmit u = .next v) (hr : s.inp.rst = false) (hc : s.regs.cc = some p)
    (hsent : u.wires.sent = none) (hm : ¬ txMoves p s.inp) :
    v.wires.sent = none ∧ v.nxt.cc = u.nxt.cc := by
  have hop := decodeGroup_ccTransmit_selWord hr hc
  by_cases hp : p.phase = .tx
  · rw [if_pos hp, if_neg fun hrdy => hm ⟨hp, hrdy⟩] at hop
    rw [runGroup_of_some hop] at h
    cases h
    exact ⟨rfl, rfl⟩
  · rw [if_neg hp] at hop
    rw [runGroup_of_none hop] at h
    cases h
    exact ⟨hsent, rfl⟩

/-- R150, R153: the request operation of a busy block writes no register, and sends nothing. -/
theorem runGroup_ccRequest_of_pending {s u v : State} {p : Pending}
    (h : runGroup s .ccRequest u = .next v) (hr : s.inp.rst = false) (hc : s.regs.cc = some p) :
    v.nxt = u.nxt ∧ v.wires = u.wires := by
  rw [runGroup_of_some (decodeGroup_ccRequest_of_pending hr hc)] at h
  split at h <;> cases h <;> exact ⟨rfl, rfl⟩

/-! ## The slot after a cycle -/

/-- R190: the slot of S' is the ticked one, advanced when a byte moved. -/
theorem refPending_of_moves {p : Pending} {i : CycleIn} (hm : txMoves p i) :
    refPending p i = p.advance (p.ticked i) := by
  obtain ⟨hp, hrdy, herr⟩ := hm
  simp [refPending, Pending.advance, Pending.ticked, hp, hrdy, herr]

theorem refPending_of_not_moves {p : Pending} {i : CycleIn} (hm : ¬ txMoves p i) :
    refPending p i = p.ticked i := by
  unfold txMoves at hm
  simp [refPending, Pending.ticked, hm]

/-- R155: what a busy block offers to the sink. -/
theorem txOffer_of_pending {s : State} {p : Pending} {tx : Option Byte} (h : txOffer s = .ok tx)
    (hr : s.inp.rst = false) (hc : s.regs.cc = some p) :
    tx = if p.phase = .tx then p.txf[p.txi]? else none := by
  cases hp : p.phase with
  | wait => simpa [txOffer, hr, hc, hp] using h.symm
  | tx =>
    cases hb : p.txf[p.txi]? with
    | none => simp [txOffer, hr, hc, hp, hb] at h
    | some b => simpa [txOffer, hr, hc, hp, hb] using h.symm

/-- R190: the cycle of a pending command, up to and from its transmit operation. -/
theorem step_next_transmit {s t : State} {p : Pending} (h : step s = .next t)
    (hr : s.inp.rst = false) (hc : s.regs.cc = some p) :
    ∃ u v, runGroup s .ccTransmit u = .next v ∧ SameStart s u ∧ u.wires.sent = none
      ∧ u.nxt.cc = (if completionDue s then none else some (p.ticked s.inp))
      ∧ t.regs.cc = v.nxt.cc ∧ t.wires.sent = v.wires.sent
      ∧ t.out.tx = if p.phase = .tx then p.txf[p.txi]? else none := by
  obtain ⟨tx, a, e, htx, ha, he, rfl⟩ := step_next_halves h hr
  have sr : SrWrites (s.begun tx) a := runGroups_srWrites (List.Subset.refl _) ha
  have tail : CcWrites a e := runGroups_ccWrites (List.Subset.refl _) he
  obtain ⟨b, hb, he⟩ := runGroups_cons_next he
  obtain ⟨u, hu, he⟩ := runGroups_cons_next he
  obtain ⟨v, hv, he⟩ := runGroups_cons_next he
  obtain ⟨w, hw, he⟩ := runGroups_cons_next he
  cases he
  have startB : SameStart s b :=
    ((begun_sameStart s tx).trans sr.start).trans (runGroup_ccWrites (by decide) hb).start
  obtain ⟨hbnxt, hbsent⟩ := runGroup_ccRoute hb
  have hbcc : b.nxt.cc = some p := by rw [hbnxt, sr.cc, begun_nxt, hc]
  obtain ⟨huwires, hucc⟩ := runGroup_ccSlot hu hr hc startB.regs hbcc
  obtain ⟨hwnxt, hwwires⟩ := runGroup_ccRequest_of_pending hw hr hc
  refine ⟨u, v, hv, startB.trans (runGroup_ccWrites (by decide) hu).start, ?_, hucc, ?_, ?_, ?_⟩
  · rw [huwires, hbsent, sr.sent, begun_wires]
  · rw [endCycle_regs, hwnxt]
  · rw [endCycle_wires, hwwires]
  · rw [endCycle_out, tail.tx, sr.out, begun_out_tx, txOffer_of_pending htx hr hc]

/-- R156, R168: a cycle in which a byte moves. -/
theorem step_next_of_moves {s t : State} {p : Pending} (h : step s = .next t)
    (hr : s.inp.rst = false) (hc : s.regs.cc = some p) (hm : txMoves p s.inp) :
    t.wires.sent.isSome = true ∧ t.wires.sent = p.txf[p.txi]? ∧ t.out.tx = p.txf[p.txi]?
    ∧ t.regs.cc = if completionDue s then none else some (refPending p s.inp) := by
  obtain ⟨u, v, hv, hs, -, hucc, hcc, hsent, htx⟩ := step_next_transmit h hr hc
  obtain ⟨⟨b, hb, hvsent⟩, hvcc⟩ := runGroup_ccTransmit_of_moves hv hr hc hs hm
  refine ⟨by rw [hsent, hvsent]; rfl, by rw [hsent, hvsent, hb], by rw [htx, if_pos hm.1], ?_⟩
  rw [hcc, hvcc, hucc, refPending_of_moves hm]
  cases completionDue s <;> rfl

/-- R157, R168: a cycle in which none does. -/
theorem step_next_of_not_moves {s t : State} {p : Pending} (h : step s = .next t)
    (hr : s.inp.rst = false) (hc : s.regs.cc = some p) (hm : ¬ txMoves p s.inp) :
    t.wires.sent = none ∧ (t.out.tx = if p.phase = .tx then p.txf[p.txi]? else none)
    ∧ t.regs.cc = if completionDue s then none else some (refPending p s.inp) := by
  obtain ⟨u, v, hv, -, husent, hucc, hcc, hsent, htx⟩ := step_next_transmit h hr hc
  obtain ⟨hvsent, hvcc⟩ := runGroup_ccTransmit_of_not_moves hv hr hc husent hm
  exact ⟨hsent.trans hvsent, htx, by rw [hcc, hvcc, hucc, refPending_of_not_moves hm]⟩

/-- A command that is still held after the cycle is R190's. -/
theorem eq_refPending_of_held {s t : State} {p q : Pending}
    (hcc : t.regs.cc = if completionDue s then none else some (refPending p s.inp))
    (hq : t.regs.cc = some q) : q = refPending p s.inp := by
  rw [hcc] at hq
  split at hq <;> cases hq
  rfl

/-- Settles O54, by whether a byte moves in the cycle. -/
theorem transmitSendsTheFrameInOrder : Obligations.TransmitSendsTheFrameInOrder := by
  intro s t p h hr hc
  by_cases hm : txMoves p s.inp
  case pos =>
    obtain ⟨hsome, hsent, htx, hcc⟩ := step_next_of_moves h hr hc hm
    refine ⟨by rw [if_pos hm.2, hsent, htx], fun b hb => ⟨hm.1, hsent ▸ hb⟩, ?_⟩
    intro q hq
    rw [eq_refPending_of_held hcc hq, refPending_of_moves hm]
    refine ⟨fun _ => ⟨rfl, ?_⟩, fun hnone => ?_⟩
    · simp [Pending.advance, Pending.ticked, hm.1]
    · simp [hnone] at hsome
  case neg =>
    obtain ⟨hsent, htx, hcc⟩ := step_next_of_not_moves h hr hc hm
    refine ⟨?_, fun b hb => by simp [hsent] at hb, ?_⟩
    · rw [hsent]
      split
      case isTrue hrdy => rw [htx, if_neg fun hp => hm ⟨hp, hrdy⟩]
      case isFalse => rfl
    · intro q hq
      rw [eq_refPending_of_held hcc hq, refPending_of_not_moves hm]
      exact ⟨fun hsome => by simp [hsent] at hsome, fun _ => ⟨rfl, rfl⟩⟩

end Sys2Proof.Machine
end

section
/-! PROOFS. CC's half of a cycle with the slot free: what the slot, transmit and request groups select
and do, what every cycle makes of its slot operation, and O48 from them. -/

namespace Sys2Proof.Machine

/-! ## The operations of CC's groups with the slot free -/

/-- R33: while no command is pending, no slot operation is selected. -/
theorem decodeGroup_ccSlot_of_idle {s : State} (hc : s.regs.cc = none) :
    decodeGroup .ccSlot (selWord s) = none := by
  simp [decodeGroup_ccSlot, selBits, hc]

/-- R33: and no transmit operation. -/
theorem decodeGroup_ccTransmit_of_idle {s : State} (hc : s.regs.cc = none) :
    decodeGroup .ccTransmit (selWord s) = none := by
  simp [decodeGroup_ccTransmit, selBits, hc]

/-- R151 to R153: with the slot free a request is judged by the length of its payload. -/
theorem decodeGroup_ccRequest_of_idle {s : State} (hr : s.inp.rst = false)
    (hc : s.regs.cc = none) :
    decodeGroup .ccRequest (selWord s) = some
      (match s.inp.req with
       | none => .reqNone
       | some r => if 255 < r.payload.length then .reqInvalidArgument else .reqAccept) := by
  rw [decodeGroup_ccRequest]
  cases hq : s.inp.req with
  | none => simp [hr, hq]
  | some r =>
    by_cases hl : 255 < r.payload.length <;> simp [selBits, Config.maxPayload, hr, hc, hq, hl]

/-- What the request block of R190 loads into a free slot (R152). -/
def acceptedCommand (i : CycleIn) : Option Pending :=
  i.req.bind fun r => (encodeFrame r.desc r.payload).map fun w =>
    { desc := r.desc, timer := r.timeout, phase := .tx, txf := w, txi := 0 }

theorem acceptedCommand_of_no_req {i : CycleIn} (hq : i.req = none) : acceptedCommand i = none := by
  simp [acceptedCommand, hq]

theorem acceptedCommand_of_too_long {i : CycleIn} {r : Request} (hq : i.req = some r)
    (hl : 255 < r.payload.length) : acceptedCommand i = none := by
  simp [acceptedCommand, hq, encodeFrame_of_too_long r.desc hl]

/-- R151 to R153: the request operation loads the command that it accepts, and sends nothing. -/
theorem runGroup_ccRequest_of_idle {s u v : State} (h : runGroup s .ccRequest u = .next v)
    (hr : s.inp.rst = false) (hc : s.regs.cc = none) (hs : SameStart s u) (hnxt : u.nxt.cc = none) :
    v.wires = u.wires ∧ v.nxt.cc = acceptedCommand s.inp := by
  rw [runGroup_of_some (decodeGroup_ccRequest_of_idle hr hc)] at h
  cases hq : s.inp.req with
  | none =>
    rw [hq] at h
    cases h
    exact ⟨rfl, hnxt.trans (acceptedCommand_of_no_req hq).symm⟩
  | some r =>
    simp only [hq] at h
    split at h
    case isTrue hl =>
      cases h
      exact ⟨rfl, hnxt.trans (acceptedCommand_of_too_long hq hl).symm⟩
    case isFalse =>
      obtain ⟨r', w, hq', hw, rfl⟩ := execReqAccept_next h
      rw [hs.inp] at hq'
      exact ⟨rfl, by simp [acceptedCommand, hq', hw, loadSlot]⟩

/-! ## The slot operation within its cycle -/

/-- R34: only a slot operation reports a completion. -/
theorem exec_cmp {i : Instr} {g : Group} {u v : State} (hg : g ∈ ccGroups) (hslot : g ≠ .ccSlot)
    (hi : i.group = some g) (h : exec i u = .next v) : v.out.cmp = u.out.cmp := by
  cases i <;> cases hi <;> simp [ccGroups] at hg hslot
  case reqAccept =>
    obtain ⟨r, w, -, -, rfl⟩ := execReqAccept_next h
    rfl
  case txByte =>
    obtain ⟨p, b, -, -, rfl⟩ := execTxByte_next h
    rfl
  case routeReply =>
    obtain ⟨k, -, rfl⟩ := execRouteReply_next h
    rfl
  case forwardFrame =>
    obtain ⟨f, -, rfl⟩ := execForwardFrame_next h
    rfl
  case reqAlreadyPending | reqInvalidArgument | reqNone | txStall =>
    cases h
    rfl

theorem runGroup_cmp {s u v : State} {g : Group} (hg : g ∈ ccGroups) (hslot : g ≠ .ccSlot)
    (h : runGroup s g u = .next v) : v.out.cmp = u.out.cmp := by
  obtain rfl | ⟨i, hi, h⟩ := runGroup_cases h
  · rfl
  · exact exec_cmp hg hslot hi h

/-- R190: a cycle from its slot operation on, which finds the slot as in S, and no byte sent or
completion reported yet. What that operation reports is what the cycle reports. -/
theorem step_next_slot {s t : State} (h : step s = .next t) (hr : s.inp.rst = false) :
    ∃ u v w x, SameStart s u ∧ u.nxt.cc = s.regs.cc ∧ u.wires.sent = none ∧ u.out.cmp = none
      ∧ runGroup s .ccSlot u = .next v ∧ runGroup s .ccTransmit v = .next w
      ∧ runGroup s .ccRequest w = .next x ∧ t = endCycle x ∧ t.out.cmp = v.out.cmp := by
  obtain ⟨tx, a, e, -, ha, he, rfl⟩ := step_next_halves h hr
  have sr : SrWrites (s.begun tx) a := runGroups_srWrites (List.Subset.refl _) ha
  obtain ⟨u, hu, he⟩ := runGroups_cons_next he
  obtain ⟨v, hv, he⟩ := runGroups_cons_next he
  obtain ⟨w, hw, he⟩ := runGroups_cons_next he
  obtain ⟨x, hx, he⟩ := runGroups_cons_next he
  cases he
  obtain ⟨hunxt, husent⟩ := runGroup_ccRoute hu
  refine ⟨u, v, w, e, ?start, ?cc, ?sent, ?cmp, hv, hw, hx, rfl, ?report⟩
  case start =>
    exact ((begun_sameStart s tx).trans sr.start).trans (runGroup_ccWrites (by decide) hu).start
  case cc => rw [hunxt, sr.cc, begun_nxt]
  case sent => rw [husent, sr.sent, begun_wires]
  case cmp =>
    rw [runGroup_cmp (by decide) (by decide) hu, sr.out]
    rfl
  case report =>
    rw [endCycle_out, runGroup_cmp (by decide) (by decide) hx,
      runGroup_cmp (by decide) (by decide) hw]

/-- R152, R153: a cycle without reset that finds the slot free. -/
theorem step_next_of_idle {s t : State} (h : step s = .next t) (hr : s.inp.rst = false)
    (hc : s.regs.cc = none) :
    t.out.cmp = none ∧ t.wires.sent = none ∧ t.regs.cc = acceptedCommand s.inp := by
  obtain ⟨u, v, w, x, hs, hucc, husent, hucmp, hv, hw, hx, rfl, hcmp⟩ := step_next_slot h hr
  cases (runGroup_of_none (decodeGroup_ccSlot_of_idle hc) u).symm.trans hv
  cases (runGroup_of_none (decodeGroup_ccTransmit_of_idle hc) u).symm.trans hw
  obtain ⟨hxwires, hxcc⟩ := runGroup_ccRequest_of_idle hx hr hc hs (hucc.trans hc)
  exact ⟨hcmp.trans hucmp, by rw [endCycle_wires, hxwires, husent], hxcc⟩

/-- Settles O48: a reset cycle clears everything, any other leaves what `step_next_of_idle` says. -/
theorem freeSlotTakesTheAcceptedCommand : Obligations.FreeSlotTakesTheAcceptedCommand := by
  intro s t h hc
  cases hr : s.inp.rst with
  | true =>
    obtain ⟨hregs, hwires, hout⟩ := step_next_of_rst h hr
    rw [hregs, hwires, hout]
    exact ⟨rfl, rfl, rfl⟩
  | false => exact step_next_of_idle h hr hc

end Sys2Proof.Machine
end

section
/-! PROOFS. That a cycle answers whenever the byte offered to the sink can be read (R55, R192), that a
pending command keeps R32 until it completes, and, by induction on the cycles, O53. -/

namespace Sys2Proof.Machine

/-! ## Every selected operation answers -/

theorem execSelReplay_of_cons {u : State} {b : Byte} {q : List Byte} (h : u.regs.srRep = b :: q) :
    execSelReplay u = .next ((u.setRep q).setExam (some b)) := by
  simp [execSelReplay, repPop, h]

theorem execSelInput_of_some {u : State} {b : Byte} (h : u.inp.rx = some b) :
    execSelInput u = .next ((u.setExam (some b)).setTaken (some b)) := by
  rw [execSelInput, h]

theorem execAccEmit_of_complete {u : State} {b : Byte}
    (h : frameComplete (u.regs.srAcc ++ [b]) = true) : ∃ v, execAccEmit b u = .next v := by
  rw [execAccEmit, assembleFrame_of_complete h]
  exact ⟨_, rfl⟩

theorem execReqAccept_of_short {u : State} {r : Request} (hq : u.inp.req = some r)
    (hl : r.payload.length ≤ 255) : ∃ v, execReqAccept u = .next v := by
  simp [execReqAccept, hq, encodeFrame_eq, hl]

theorem withPending_of_pending {u : State} {p : Pending} (h : u.regs.cc = some p)
    (k : Pending → Result) : withPending u k = k p := by
  rw [withPending, h]

theorem completePending_of_pending {u : State} {p : Pending} (hc : u.regs.cc = some p)
    (st : CmpStatus) : completePending u st = .next (complete u st 0 p.desc) :=
  withPending_of_pending hc _

theorem execCmpCommandError_of_reply {u : State} {p : Pending} {k : Byte} (hc : u.regs.cc = some p)
    (hk : replyAck u = some k) :
    execCmpCommandError u = .next (complete u .commandError k p.desc) := by
  rw [execCmpCommandError, withPending_of_pending hc, hk]

theorem execRouteReply_of_reply {u : State} {k : Byte} (hk : replyAck u = some k) :
    execRouteReply u = .next ((u.setAck (some k)).setFo none) := by
  rw [execRouteReply, hk]

theorem execForwardFrame_of_emitted {u : State} {f : Frame} (hf : emitted u = some f) :
    execForwardFrame u = .next (u.setFo (some (frameOut u f))) := by
  rw [execForwardFrame, hf]

theorem execTxByte_of_getElem {u : State} {p : Pending} {b : Byte} (hc : u.regs.cc = some p)
    (hb : p.txf[p.txi]? = some b) : ∃ v, execTxByte u = .next v := by
  simp only [execTxByte, withPending_of_pending hc, memReadTx, hb]
  split <;> exact ⟨_, rfl⟩

/-- R121: the operand of the selected byte selection is there. -/
theorem exec_srSelect_answers {s u : State} {i : Instr} (hr : s.inp.rst = false)
    (hs : SameStart s u) (hi : decodeGroup .srSelect (selWord s) = some i) :
    ∃ v, exec i u = .next v := by
  obtain ⟨b, q, hq, -, hop, -⟩ | ⟨b, -, hx, -, hop, -⟩ | ⟨-, -, hop, -⟩ := srSelect_cases hr
    <;> cases hop.symm.trans hi
  · exact ⟨_, execSelReplay_of_cons (hs.regs ▸ hq)⟩
  · exact ⟨_, execSelInput_of_some (hs.inp ▸ hx)⟩
  · exact ⟨_, rfl⟩

/-- R122 to R126: every action on an examined byte answers; only a complete frame is emitted. -/
theorem exec_srActionOp_answers (u : State) (b : Byte) :
    ∃ v, exec (srActionOp u.regs.sr b) u = .next v := by
  unfold srActionOp
  split
  case h_1 => split_ifs <;> exact ⟨_, rfl⟩
  case h_2 =>
    split_ifs with hf hv
    · exact execAccEmit_of_complete hf
    · exact ⟨_, rfl⟩
    · exact ⟨_, rfl⟩

theorem exec_srAction_answers {s u : State} {i : Instr} (hr : s.inp.rst = false)
    (hs : SameStart s u) (hi : decodeGroup .srAction (selWord s) = some i) :
    ∃ v, exec i u = .next v := by
  rw [decodeGroup_srAction_selWord hr, ← hs.regs] at hi
  obtain ⟨b, -, rfl⟩ := Option.map_eq_some_iff.1 hi
  exact exec_srActionOp_answers u b

/-- R162, R163: a frame is forwarded only when there is one, and routed only as a reply. -/
theorem exec_ccRoute_answers {s u : State} {i : Instr} (hs : SameStart s u)
    (hi : decodeGroup .ccRoute (selWord s) = some i) : ∃ v, exec i u = .next v := by
  rw [decodeGroup_ccRoute] at hi
  split_ifs at hi with hreply hframe <;> cases hi
  · obtain ⟨-, -, hrm⟩ : s.inp.rst = false ∧ (emitted s).isSome = true
        ∧ (replyAck s).isSome = true := by simpa [selBits] using hreply
    obtain ⟨k, hk⟩ := Option.isSome_iff_exists.1 hrm
    exact ⟨_, execRouteReply_of_reply (hs.replyAck.trans hk)⟩
  · obtain ⟨-, hfe, -⟩ : s.inp.rst = false ∧ (emitted s).isSome = true ∧ replyAck s = none := by
      simpa [selBits] using hframe
    obtain ⟨f, hf⟩ := Option.isSome_iff_exists.1 hfe
    exact ⟨_, execForwardFrame_of_emitted (hs.emitted.trans hf)⟩

/-- R162 to R172: the slot operation of a pending command answers; its ACK byte is there when it is
read. -/
theorem exec_ccSlot_answers {s u : State} {i : Instr} (hr : s.inp.rst = false)
    (hs : SameStart s u) (hi : decodeGroup .ccSlot (selWord s) = some i) :
    ∃ v, exec i u = .next v := by
  cases hc : s.regs.cc with
  | none => cases (decodeGroup_ccSlot_of_idle hc).symm.trans hi
  | some p =>
    have hcu : u.regs.cc = some p := hs.regs ▸ hc
    rw [decodeGroup_ccSlot_selWord hr hc] at hi
    cases hi
    split_ifs with h0 hk
    · exact ⟨_, completePending_of_pending hcu _⟩
    · obtain ⟨k, hk⟩ := Option.isSome_iff_exists.1 hk
      exact ⟨_, execCmpCommandError_of_reply hcu (hs.replyAck.trans hk)⟩
    · exact ⟨_, completePending_of_pending hcu _⟩
    · exact ⟨_, completePending_of_pending hcu _⟩
    · exact ⟨_, completePending_of_pending hcu _⟩
    · exact ⟨_, withPending_of_pending hcu _⟩
    · exact ⟨_, rfl⟩

/-- R155: what can be offered to the sink is a byte of the frame. -/
theorem exists_getElem_of_txOffer_ok {s : State} {p : Pending} {tx : Option Byte}
    (htx : txOffer s = .ok tx) (hr : s.inp.rst = false) (hc : s.regs.cc = some p)
    (hp : p.phase = .tx) : ∃ b, p.txf[p.txi]? = some b := by
  cases hb : p.txf[p.txi]? with
  | some b => exact ⟨b, rfl⟩
  | none => simp [txOffer, hr, hc, hp, hb] at htx

/-- R156, R157: a byte moves only where one can be offered. -/
theorem exec_ccTransmit_answers {s u : State} {i : Instr} {tx : Option Byte}
    (htx : txOffer s = .ok tx) (hr : s.inp.rst = false) (hs : SameStart s u)
    (hi : decodeGroup .ccTransmit (selWord s) = some i) : ∃ v, exec i u = .next v := by
  cases hc : s.regs.cc with
  | none => cases (decodeGroup_ccTransmit_of_idle hc).symm.trans hi
  | some p =>
    rw [decodeGroup_ccTransmit_selWord hr hc] at hi
    split_ifs at hi with hp hrdy <;> cases hi
    · obtain ⟨b, hb⟩ := exists_getElem_of_txOffer_ok htx hr hc hp
      exact execTxByte_of_getElem (hs.regs ▸ hc) hb
    · exact ⟨_, rfl⟩

/-- R150 to R153: only a request that encodes is accepted. -/
theorem exec_ccRequest_answers {s u : State} {i : Instr} (hr : s.inp.rst = false)
    (hs : SameStart s u) (hi : decodeGroup .ccRequest (selWord s) = some i) :
    ∃ v, exec i u = .next v := by
  cases hc : s.regs.cc with
  | some p =>
    rw [decodeGroup_ccRequest_of_pending hr hc] at hi
    split at hi <;> cases hi <;> exact ⟨_, rfl⟩
  | none =>
    rw [decodeGroup_ccRequest_of_idle hr hc] at hi
    cases hq : s.inp.req with
    | none =>
      rw [hq] at hi
      cases hi
      exact ⟨_, rfl⟩
    | some r =>
      simp only [hq] at hi
      split_ifs at hi with hl <;> cases hi
      · exact ⟨_, rfl⟩
      · exact execReqAccept_of_short (hs.inp ▸ hq) (Nat.le_of_not_lt hl)

/-- R192: an operation that the cycle selects answers, whatever ran before it in the cycle. -/
theorem exec_selected_answers {s u : State} {g : Group} {i : Instr} {tx : Option Byte}
    (htx : txOffer s = .ok tx) (hr : s.inp.rst = false) (hs : SameStart s u)
    (hi : decodeGroup g (selWord s) = some i) : ∃ v, exec i u = .next v := by
  cases g with
  | srSelect => exact exec_srSelect_answers hr hs hi
  | srAction => exact exec_srAction_answers hr hs hi
  | ccRoute => exact exec_ccRoute_answers hs hi
  | ccSlot => exact exec_ccSlot_answers hr hs hi
  | ccTransmit => exact exec_ccTransmit_answers htx hr hs hi
  | ccRequest => exact exec_ccRequest_answers hr hs hi
  | all => simp [decodeGroup_all, hr] at hi

/-- Operations that each answer in every state of the cycle answer one after another. -/
theorem runOps_answers {ops : List Instr} {s u : State} (hs : SameStart s u)
    (hops : ∀ i ∈ ops, ∀ u, SameStart s u → ∃ v, exec i u = .next v) :
    ∃ v, runOps ops u = .next v := by
  induction ops generalizing u with
  | nil => exact ⟨u, rfl⟩
  | cons i ops ih =>
    obtain ⟨hi, hops⟩ := List.forall_mem_cons.1 hops
    obtain ⟨v, hv⟩ := hi u hs
    rw [runOps_cons, hv, andThen_of_next]
    exact ih (hs.trans (exec_sameStart hv)) hops

/-- What a cycle's selection word decodes to answers in every state of the cycle. -/
theorem exec_decoded_answers {s : State} {ops : List Instr} {tx : Option Byte}
    (htx : txOffer s = .ok tx) (hdec : decode (selWord s) = .ok ops) :
    ∀ i ∈ ops, ∀ u, SameStart s u → ∃ v, exec i u = .next v := by
  intro i hi u hs
  cases hr : s.inp.rst with
  | true =>
    cases (decode_selWord_of_rst hr).symm.trans hdec
    obtain rfl := List.mem_singleton.1 hi
    exact ⟨_, rfl⟩
  | false =>
    cases (decode_selWord hr).symm.trans hdec
    obtain ⟨g, -, hg⟩ := List.mem_filterMap.1 hi
    exact exec_selected_answers htx hr hs hg

/-- R192: a cycle answers when the byte offered to the sink can be read. -/
theorem step_answers {s : State} {tx : Option Byte} (htx : txOffer s = .ok tx) :
    ∃ t, step s = .next t := by
  obtain ⟨ops, hdec⟩ := exists_decode_selWord s
  have hu := beginCycle_of_txOffer_ok htx
  obtain ⟨v, hv⟩ := runOps_answers (beginCycle_sameStart hu) (exec_decoded_answers htx hdec)
  rw [step_of_decode_ok hdec, hu, andThen_of_next, hv, andThen_of_next]
  exact ⟨_, rfl⟩

/-- R32: `cc_txi` points into the frame while it is sent, so there is a byte to offer. -/
theorem txOffer_ok_of_ccInvariant {s : State} (hinv : CcInvariant s.regs) :
    ∃ tx, txOffer s = .ok tx := by
  obtain ⟨-, -, p, hc, hp, hlen⟩ | ⟨htx, -⟩ | ⟨p, b, htx, -⟩ := txOffer_cases s
  · obtain ⟨hin, -⟩ := hinv p hc
    exact absurd (hin hp) (Nat.not_lt.2 hlen)
  · exact ⟨_, htx⟩
  · exact ⟨_, htx⟩

/-! ## A pending command across a cycle -/

/-- R168: a due completion is reported in its cycle. -/
theorem exec_completionOps_cmp {i : Instr} {u v : State} (hi : i ∈ completionOps)
    (h : exec i u = .next v) : v.out.cmp.isSome = true := by
  simp only [completionOps, List.mem_cons, List.not_mem_nil, or_false] at hi
  obtain rfl | rfl | rfl | rfl | rfl := hi
  case inr.inl =>
    obtain ⟨p, k, -, -, rfl⟩ := execCmpCommandError_next h
    rfl
  all_goals
    obtain ⟨p, -, rfl⟩ := completePending_next h
    rfl

theorem step_cmp_of_due {s t : State} {p : Pending} (h : step s = .next t)
    (hr : s.inp.rst = false) (hc : s.regs.cc = some p) (hd : completionDue s = true) :
    t.out.cmp.isSome = true := by
  obtain ⟨u, v, w, x, -, -, -, -, hv, -, -, -, hcmp⟩ := step_next_slot h hr
  obtain ⟨i, hi, hop⟩ := decodeGroup_ccSlot_of_due hr hc hd
  rw [runGroup_of_some hop] at hv
  rw [hcmp]
  exact exec_completionOps_cmp hi hv

/-- R168, R190: with none due the command stays, ticked and advanced. -/
theorem step_cc_of_not_due {s t : State} {p : Pending} (h : step s = .next t)
    (hr : s.inp.rst = false) (hc : s.regs.cc = some p) (hd : completionDue s = false) :
    t.regs.cc = some (refPending p s.inp) := by
  by_cases hm : txMoves p s.inp
  · obtain ⟨-, -, -, hcc⟩ := step_next_of_moves h hr hc hm
    simpa [hd] using hcc
  · obtain ⟨-, -, hcc⟩ := step_next_of_not_moves h hr hc hm
    simpa [hd] using hcc

/-- R32 across the cycle of a pending command that does not complete. -/
theorem ccInvariant_of_not_due {s t : State} {p : Pending} (h : step s = .next t)
    (hr : s.inp.rst = false) (hc : s.regs.cc = some p) (hd : completionDue s = false)
    (hinv : CcInvariant s.regs) : CcInvariant t.regs := by
  intro q hq
  cases (step_cc_of_not_due h hr hc hd).symm.trans hq
  obtain ⟨htx, hwait, hframe⟩ := hinv p hc
  by_cases hm : txMoves p s.inp
  · have hlt := htx hm.1
    rw [refPending_of_moves hm]
    by_cases hlast : p.txi + 1 = p.txf.length
    · simpa [Pending.advance, Pending.ticked, hlast] using hframe
    · have hnext : p.txi + 1 < p.txf.length := by omega
      simpa [Pending.advance, Pending.ticked, hlast, hm.1, hnext] using hframe
  · rw [refPending_of_not_moves hm]
    exact ⟨htx, hwait, hframe⟩

@[simp] theorem refPending_timer (p : Pending) (i : CycleIn) :
    (refPending p i).timer = if i.tick then p.timer - 1 else p.timer := rfl

/-- R170, R171: each tick that completes nothing takes one off the timer, and leaves one at least. -/
theorem timer_of_not_due {s : State} {p : Pending} (hc : s.regs.cc = some p)
    (hd : completionDue s = false) :
    max p.timer.toNat 1
      = max (refPending p s.inp).timer.toNat 1 + if s.inp.tick = true then 1 else 0 := by
  cases ht : s.inp.tick with
  | false => simp [ht]
  | true =>
    have htimer : 1 < p.timer.toNat := by
      by_contra hle
      have due : completionDue s = true :=
        (completionDue_of_pending hc).2 (.inr (.inr (.inr ⟨ht, Nat.le_of_not_lt hle⟩)))
      exact absurd due (Bool.eq_false_iff.1 hd)
    have hsub : (p.timer - 1).toNat = p.timer.toNat - 1 := by bv_omega
    simp only [refPending_timer, ht, if_true, hsub]
    omega

/-! ## The inputs of the coming cycles -/

theorem inputAt_zero (s : State) : inputAt s 0 = s.inp := by
  cases hp : s.ports <;> simp [inputAt, State.inp, hp]

/-- A cycle takes its inputs off the list, and the count of cycles one on. -/
theorem inputAt_of_step {s t : State} (h : step s = .next t) (k : Nat) :
    inputAt t k = inputAt s (k + 1) := by
  obtain ⟨u, v, ops, hu, -, hv, rfl⟩ := step_next h
  have start : SameStart s v := (beginCycle_sameStart hu).trans (runOps_sameStart hv)
  simp [inputAt, start.ports, start.cycle, Nat.add_comm k 1, Nat.add_assoc]

/-- The ticks of the coming cycles are the next cycle's and those of the cycles after it. -/
theorem ticksWithin_succ {s t : State} (h : step s = .next t) (n : Nat) :
    ticksWithin (n + 1) s = ticksWithin n t + if s.inp.tick = true then 1 else 0 := by
  have shift : (fun k => (inputAt s k).tick) ∘ Nat.succ = fun k => (inputAt t k).tick := by
    funext k
    simp [inputAt_of_step h]
  rw [ticksWithin, List.range_succ_eq_map, List.filter_cons, List.filter_map, shift, inputAt_zero]
  split <;> simp [ticksWithin, *]

/-! ## The deadline -/

/-- R67: the induction on the cycles, over the part of the invariants that it needs. In each cycle
the command completes, or its timer has as much less to go as there are ticks gone. -/
theorem completesWithin_of_ticks {n : Nat} {s : State} {p : Pending} (hinv : CcInvariant s.regs)
    (hc : s.regs.cc = some p) (hrst : ∀ k, k < n → (inputAt s k).rst = false)
    (hticks : max p.timer.toNat 1 ≤ ticksWithin n s) : completesWithin n s := by
  induction n generalizing s p with
  | zero =>
    have none_yet : ticksWithin 0 s = 0 := rfl
    omega
  | succ n ih =>
    have hr : s.inp.rst = false := inputAt_zero s ▸ hrst 0 n.succ_pos
    obtain ⟨tx, htx⟩ := txOffer_ok_of_ccInvariant hinv
    obtain ⟨t, h⟩ := step_answers htx
    refine ⟨t, h, ?_⟩
    cases hd : completionDue s with
    | true => exact .inl (step_cmp_of_due h hr hc hd)
    | false =>
      refine .inr (ih (ccInvariant_of_not_due h hr hc hd hinv) (step_cc_of_not_due h hr hc hd) ?_ ?_)
      · intro k hk
        rw [inputAt_of_step h]
        exact hrst (k + 1) (Nat.succ_lt_succ hk)
      · rw [timer_of_not_due hc hd, ticksWithin_succ h] at hticks
        exact Nat.le_of_add_le_add_right hticks

/-- Settles O53. -/
theorem pendingCommandCompletesByItsDeadline : Obligations.PendingCommandCompletesByItsDeadline := by
  rintro n s p ⟨-, hinv⟩ hc hrst hticks
  exact completesWithin_of_ticks hinv hc hrst hticks

end Sys2Proof.Machine
end

section
/-! PROOFS. The encoder beside the decoder (R79, R80): what each selection word stands for in its
group, what a group's decoder can answer, which words it refuses, and which operations the selection
word of a state selects; O1 to O6 and O59 from them. -/

namespace Sys2Proof

/-! ## From an operation to its word and back -/

/-- R79: the word of every operation has the reserved bits 0, and only RESET's has `rst`. -/
theorem fixedBits_statement : (i : Instr) → Laws.FixedBits.Statement i
  | .fcChecksum bytes => Laws.FixedBits.fcChecksum bytes
  | .fcEncode d p => Laws.FixedBits.fcEncode d p
  | .fcVerify w => Laws.FixedBits.fcVerify w
  | .fcDecode w => Laws.FixedBits.fcDecode w
  | .selReplay => Laws.FixedBits.selReplay
  | .selInput => Laws.FixedBits.selInput
  | .selNone => Laws.FixedBits.selNone
  | .scanSync2 => Laws.FixedBits.scanSync2
  | .scanSync1 => Laws.FixedBits.scanSync1
  | .scanOther b => Laws.FixedBits.scanOther b
  | .accAppend b => Laws.FixedBits.accAppend b
  | .accEmit b => Laws.FixedBits.accEmit b
  | .accRescan b => Laws.FixedBits.accRescan b
  | .reqAlreadyPending => Laws.FixedBits.reqAlreadyPending
  | .reqInvalidArgument => Laws.FixedBits.reqInvalidArgument
  | .reqAccept => Laws.FixedBits.reqAccept
  | .reqNone => Laws.FixedBits.reqNone
  | .cmpOk => Laws.FixedBits.cmpOk
  | .cmpCommandError => Laws.FixedBits.cmpCommandError
  | .cmpRxIoError => Laws.FixedBits.cmpRxIoError
  | .cmpTxIoError => Laws.FixedBits.cmpTxIoError
  | .cmpTimeout => Laws.FixedBits.cmpTimeout
  | .tick => Laws.FixedBits.tick
  | .hold => Laws.FixedBits.hold
  | .txByte => Laws.FixedBits.txByte
  | .txStall => Laws.FixedBits.txStall
  | .routeReply => Laws.FixedBits.routeReply
  | .forwardFrame => Laws.FixedBits.forwardFrame
  | .reset => Laws.FixedBits.reset

/-- An operation of a group has one word, with the reserved bits 0. -/
theorem exists_encode_of_group {i : Instr} {g : Group} (hg : i.group = some g) :
    ∃ w, encode i = [w] ∧ reservedClear w = true := by
  have h := fixedBits_statement i
  simp only [Laws.FixedBits.Statement, hg] at h
  obtain ⟨w, hw, hres, -⟩ := h
  exact ⟨w, hw, hres⟩

/-- R80, R122 to R126: the SR action of a word with an examined byte, by its pattern's bits `mode`,
`pre`, `fc` and `ckok`. -/
theorem decodeGroup_srAction_withSelByte (b : Byte) {p : BitVec 24} (hrst : p.getLsbD 0 = false)
    (hex : p.getLsbD 7 = true) :
    decodeGroup .srAction (withSelByte b p) = some
      (if p.getLsbD 9 then
        if p.getLsbD 13 then if p.getLsbD 14 then .accEmit b else .accRescan b else .accAppend b
       else if p.getLsbD 10 = true ∧ b = 0x65 then .scanSync2
       else if b = 0x75 then .scanSync1 else .scanOther b) := by
  rw [decodeGroup_srAction]
  simp only [selByte_withSelByte, selBit_withSelByte, Nat.reduceLT, hrst, hex]
  cases p.getLsbD 9 with
  | false => simp [← apply_ite some]
  | true => cases p.getLsbD 13 <;> cases p.getLsbD 14 <;> rfl

/-- R80: a well-formed operation is the one that its word selects in its group. Only the operations
on an examined byte have more than one word. -/
theorem decodeGroup_of_encode {i : Instr} {g : Group} {w : Sel} (hwf : i.wellFormed = true)
    (hg : i.group = some g) (hw : encode i = [w]) : decodeGroup g w = some i := by
  cases i <;> cases hg <;> cases hw
  case scanOther b =>
    have hb : b ≠ 0x75#8 := by simpa [Instr.wellFormed, Config.sync1] using hwf
    rw [decodeGroup_srAction_withSelByte b (by decide) (by decide)]
    simp [hb]
  case accAppend b => exact decodeGroup_srAction_withSelByte b (by decide) (by decide)
  case accEmit b => exact decodeGroup_srAction_withSelByte b (by decide) (by decide)
  case accRescan b => exact decodeGroup_srAction_withSelByte b (by decide) (by decide)
  all_goals decide

/-- Settles O1. -/
theorem encodeThenDecodeGivesTheOperation : Obligations.EncodeThenDecodeGivesTheOperation := by
  intro i g hwf hg
  obtain ⟨w, hw, hres⟩ := exists_encode_of_group hg
  exact ⟨w, hw, hres, decodeGroup_of_encode hwf hg hw⟩

/-- Settles O4: eight closed words. -/
theorem writtenOutWordsDecodeToTheirRows : Obligations.WrittenOutWordsDecodeToTheirRows := by
  refine ⟨?_, ?_, ?_, ?_, ?_, ?_, ?_, ?_⟩ <;> decide

/-! ## What a group's decoder answers, and what it refuses -/

/-- SR.SCAN_OTHER with the byte of SR.SCAN_SYNC1 is the one operation that no word may select. -/
theorem wellFormed_iff_ne (i : Instr) :
    i.wellFormed = true ↔ i ≠ .scanOther Config.sync1 := by
  cases i <;> simp [Instr.wellFormed]

/-- R80: no word selects it, as the row of SR.SCAN_SYNC1 stands first. -/
theorem decodeGroup_srAction_ne_scanOther_sync1 (w : Sel) :
    decodeGroup .srAction w ≠ some (.scanOther Config.sync1) := by
  rw [decodeGroup_srAction]
  intro h
  split_ifs at h with _ hsync1 hscan <;>
    simp only [Option.some.injEq, Instr.scanOther.injEq, reduceCtorEq] at h
  exact hsync1 (by simpa [h, Config.sync1] using hscan)

/-- Settles O2. -/
theorem decodedOperationIsWellFormedAndOfItsGroup :
    Obligations.DecodedOperationIsWellFormedAndOfItsGroup := by
  intro g w i h
  have hg := Machine.group_of_decodeGroup h
  refine ⟨(wellFormed_iff_ne i).2 ?_, hg⟩
  rintro rfl
  cases hg
  exact decodeGroup_srAction_ne_scanOther_sync1 w h

/-- R79: the reserved bits, one by one. -/
theorem reservedClear_iff (w : Sel) :
    reservedClear w = true ↔
      selBit w 20 = false ∧ selBit w 21 = false ∧ selBit w 22 = false ∧ selBit w 23 = false := by
  rw [reservedClear, and_beq_bits]
  simp [List.range, List.range.loop]

theorem reservedClear_eq_false_iff (w : Sel) :
    reservedClear w = false ↔
      selBit w 20 = true ∨ selBit w 21 = true ∨ selBit w 22 = true ∨ selBit w 23 = true := by
  rw [← Bool.not_eq_true, reservedClear_iff]
  simp only [not_and_or, Bool.not_eq_false]

theorem decode_eq_reservedBits_iff (w : Sel) :
    decode w = .error .reservedBits ↔ reservedClear w = false := by
  obtain ⟨hres, hdec⟩ | ⟨hres, -, hdec⟩ | ⟨hres, -, hdec⟩ := decode_cases w <;> simp [hres, hdec]

/-- Settles O3. -/
theorem decodeRefusesExactlyReservedBits : Obligations.DecodeRefusesExactlyReservedBits :=
  fun w => (decode_eq_reservedBits_iff w).trans (reservedClear_eq_false_iff w)

end Sys2Proof

namespace Sys2Proof.Machine

/-! ## The operations that a state and its inputs select -/

/-- Settles O6: R230's bit `rst` decodes to RESET before any group is asked. -/
theorem resetIsSelectedAlone : Obligations.ResetIsSelectedAlone :=
  fun _ hr => decode_selWord_of_rst hr

/-- R121: the byte selection. -/
theorem decodeGroup_srSelect_selWord {s : State} (hr : s.inp.rst = false) :
    decodeGroup .srSelect (selWord s) = some
      (if s.regs.srRep ≠ [] then .selReplay
       else if s.inp.rx.isSome = true ∧ s.inp.rxErr = false then .selInput else .selNone) := by
  rw [decodeGroup_srSelect]
  cases hq : s.regs.srRep with
  | cons b q => simp [selBits, hr, hq]
  | nil => simp [selBits, hr, hq, ← apply_ite some]

/-- R161: a matching reply is a frame of the cycle. -/
theorem emitted_isSome_of_replyAck {s : State} (h : (replyAck s).isSome = true) :
    (emitted s).isSome = true := by
  cases hf : emitted s with
  | some f => rfl
  | none => simp [replyAck, hf] at h

/-- R162, R163: the routing of an emitted frame. -/
theorem decodeGroup_ccRoute_selWord {s : State} (hr : s.inp.rst = false) :
    decodeGroup .ccRoute (selWord s) =
      (emitted s).map fun _ => if (replyAck s).isSome = true then .routeReply else .forwardFrame := by
  rw [decodeGroup_ccRoute]
  cases hf : emitted s with
  | none => simp [selBits, hf]
  | some f => cases hk : replyAck s <;> simp [selBits, hr, hf, hk]

/-- R122 to R126: `srActionOp` of SR's registers, its tests written over them. -/
theorem srActionOp_sr (r : Regs) (b : Byte) :
    srActionOp r.sr b =
      if r.srMode = .scan then
        if r.srPre = true ∧ b = 0x65 then .scanSync2
        else if b = 0x75 then .scanSync1 else .scanOther b
      else if frameComplete (r.srAcc ++ [b]) = false then .accAppend b
      else if candidateVerifies (r.srAcc ++ [b]) = true then .accEmit b else .accRescan b := by
  cases hm : r.srMode with
  | scan => simp [srActionOp, Regs.sr, hm]
  | acc => cases hf : frameComplete (r.srAcc ++ [b]) <;> simp [srActionOp, Regs.sr, hm, hf]

/-- Settles O5, group by group; CC's groups by whether a command is pending. -/
theorem selectionFollowsStateAndInputs : Obligations.SelectionFollowsStateAndInputs := by
  intro s hr
  refine ⟨decodeGroup_srSelect_selWord hr, ?action, decodeGroup_ccRoute_selWord hr, ?slot,
    ?transmit, ?request⟩
  case action =>
    rw [decodeGroup_srAction_selWord hr]
    exact congrArg (Option.map · (examined s)) (funext (srActionOp_sr s.regs))
  case slot =>
    cases hc : s.regs.cc with
    | none => exact decodeGroup_ccSlot_of_idle hc
    | some p => exact decodeGroup_ccSlot_selWord hr hc
  case transmit =>
    cases hc : s.regs.cc with
    | none => exact decodeGroup_ccTransmit_of_idle hc
    | some p => exact decodeGroup_ccTransmit_selWord hr hc
  case request =>
    cases hc : s.regs.cc with
    | none =>
      rw [decodeGroup_ccRequest_of_idle hr hc]
      cases s.inp.req <;> rfl
    | some p =>
      rw [decodeGroup_ccRequest_of_pending hr hc]
      cases s.inp.req <;> rfl

/-! ## The codes of the ports -/

/-- R76, R84: no kind of response has the reserved code. -/
theorem rqCode_ne_reserved (c : RqCode) : c.code ≠ 3 := by
  cases c <;> decide

/-- R77, R84: no class has the reserved code. -/
theorem foClassCode_ne_reserved (c : FrameClass) : foClassCode c ≠ 3 := by
  cases c <;> decide

/-- Settles O59. -/
theorem portCodesAreTheSpecs : Obligations.PortCodesAreTheSpecs :=
  ⟨rfl, rfl, rfl, rfl, rfl, rfl, rfl, rfl, rfl, rfl, rqCode_ne_reserved, foClassCode_ne_reserved⟩

end Sys2Proof.Machine
end

section
/-! PROOFS. A cycle that finds the slot free and has no request (R84, R210): SR's groups, a frame
forwarded at most, and the request port left idle; O58 from it. -/

namespace Sys2Proof.Machine

/-- R34: the reply signal is CC's, no SR operation sets it. -/
theorem exec_sr_ack {i : Instr} {g : Group} {s t : State} (hg : g ∈ srGroups)
    (hi : i.group = some g) (h : exec i s = .next t) : t.wires.ack = s.wires.ack := by
  cases i <;> cases hi <;> simp [srGroups] at hg
  case selReplay =>
    obtain ⟨b, q, -, rfl⟩ := execSelReplay_next h
    rfl
  case selInput =>
    obtain ⟨b, -, rfl⟩ := execSelInput_next h
    rfl
  case accEmit b =>
    obtain ⟨f, -, rfl⟩ := execAccEmit_next h
    rfl
  all_goals cases h; rfl

theorem runGroup_sr_ack {s u v : State} {g : Group} (hg : g ∈ srGroups)
    (h : runGroup s g u = .next v) : v.wires.ack = u.wires.ack := by
  obtain rfl | ⟨i, hi, h⟩ := runGroup_cases h
  · rfl
  · exact exec_sr_ack hg hi h

theorem runGroups_srGroups_ack {s u v : State} (h : runGroups s srGroups u = .next v) :
    v.wires.ack = u.wires.ack := by
  obtain ⟨w, hw, h⟩ := runGroups_cons_next h
  obtain ⟨v, hv, h⟩ := runGroups_cons_next h
  cases h
  exact (runGroup_sr_ack (by decide) hv).trans (runGroup_sr_ack (by decide) hw)

/-- R161, R163: with no command pending, routing forwards a frame at most. -/
theorem runGroup_ccRoute_of_idle {s u v : State} (h : runGroup s .ccRoute u = .next v)
    (hr : s.inp.rst = false) (hc : s.regs.cc = none) : ∃ fo, v = u.setFo fo := by
  have hop := decodeGroup_ccRoute_selWord hr
  rw [replyAck_of_idle hc] at hop
  cases hf : emitted s with
  | none =>
    rw [hf] at hop
    cases (runGroup_of_none hop u).symm.trans h
    exact ⟨u.out.fo, rfl⟩
  | some f =>
    rw [hf] at hop
    obtain ⟨f', -, rfl⟩ := execForwardFrame_next ((runGroup_of_some hop u).symm.trans h)
    exact ⟨_, rfl⟩

/-- R153: CC's groups together, with no command pending and no request. -/
theorem runGroups_ccGroups_of_idle {s u v : State} (h : runGroups s ccGroups u = .next v)
    (hr : s.inp.rst = false) (hc : s.regs.cc = none) (hq : s.inp.req = none) :
    ∃ fo, v = (u.setFo fo).setRq none := by
  obtain ⟨a, hroute, h⟩ := runGroups_cons_next h
  obtain ⟨b, hslot, h⟩ := runGroups_cons_next h
  obtain ⟨c, htransmit, h⟩ := runGroups_cons_next h
  obtain ⟨d, hrequest, h⟩ := runGroups_cons_next h
  cases h
  obtain ⟨fo, rfl⟩ := runGroup_ccRoute_of_idle hroute hr hc
  cases (runGroup_of_none (decodeGroup_ccSlot_of_idle hc) _).symm.trans hslot
  cases (runGroup_of_none (decodeGroup_ccTransmit_of_idle hc) _).symm.trans htransmit
  have hop := decodeGroup_ccRequest_of_idle hr hc
  rw [hq] at hop
  cases (runGroup_of_some hop _).symm.trans hrequest
  exact ⟨fo, rfl⟩

/-- R155: a free slot offers nothing to the sink. -/
theorem txOffer_of_idle {s : State} (hc : s.regs.cc = none) : txOffer s = .ok none := by
  simp [txOffer, hc]

theorem busyFlag_of_idle {s : State} (hc : s.regs.cc = none) : busyFlag s = false := by
  simp [busyFlag, hc]

/-- Settles O58: a reset cycle clears everything; in any other, CC's groups write the frame output and
leave the request port idle. -/
theorem idleCorrelatorIgnoresStrobes : Obligations.IdleCorrelatorIgnoresStrobes := by
  intro s t h hc hq
  cases hr : s.inp.rst with
  | true =>
    obtain ⟨hregs, hwires, hout⟩ := step_next_of_rst h hr
    rw [hregs, hwires, hout]
    exact ⟨rfl, rfl, rfl, rfl, rfl, rfl, rfl⟩
  | false =>
    obtain ⟨hcmp, hsent, hcc⟩ := step_next_of_idle h hr hc
    obtain ⟨tx, v, w, htx, hv, hw, rfl⟩ := step_next_halves h hr
    cases (txOffer_of_idle hc).symm.trans htx
    have hout : v.out = (s.begun none).out := (runGroups_srWrites (List.Subset.refl _) hv).out
    have hack : v.wires.ack = none := runGroups_srGroups_ack hv
    obtain ⟨fo, rfl⟩ := runGroups_ccGroups_of_idle hw hr hc hq
    refine ⟨hcc.trans (acceptedCommand_of_no_req hq), hcmp, rfl, ?tx, ?busy, hsent, hack⟩
    case tx => exact congrArg Output.tx hout
    case busy => exact (congrArg Output.busy hout).trans (busyFlag_of_idle hc)

end Sys2Proof.Machine
end

section
/-! PROOFS. The Frame Codec (R100 to R108): the two accumulators as functions of the bytes, in the ring
of bytes modulo 256, and what that says of encoded, decoded and altered frames; O17 to O23 from it. -/

namespace Sys2Proof.Machine

/-! ## The accumulators -/

@[simp] theorem ckAccum_snoc_a (s : List Byte) (x : Byte) :
    (ckAccum (s ++ [x])).a = (ckAccum s).a + x := by
  rw [ckAccum_snoc, ckRound]

@[simp] theorem ckAccum_snoc_b (s : List Byte) (x : Byte) :
    (ckAccum (s ++ [x])).b = (ckAccum s).b + (ckAccum (s ++ [x])).a := by
  rw [ckAccum_snoc, ckRound]

theorem checksum_eq_iff {s t : List Byte} :
    checksum s = checksum t ↔ (ckAccum s).a = (ckAccum t).a ∧ (ckAccum s).b = (ckAccum t).b :=
  beWord_inj

theorem beWord_eq_append (hi lo : Byte) : beWord hi lo = hi ++ lo := by
  rw [BitVec.append_def, BitVec.shiftLeftZeroExtend_eq, BitVec.setWidth'_eq, beWord]

/-- R73: the high byte counts 256-fold. -/
theorem toNat_beWord (hi lo : Byte) : (beWord hi lo).toNat = hi.toNat * 256 + lo.toNat := by
  rw [beWord_eq_append, BitVec.toNat_append, ← Nat.shiftLeft_add_eq_or_of_lt lo.isLt,
    Nat.shiftLeft_eq]

/-- Settles O17. -/
theorem checksumFollowsTheAccumulators : Obligations.ChecksumFollowsTheAccumulators := by
  refine ⟨rfl, rfl, fun s x => ⟨?a, ?b⟩, fun s => toNat_beWord _ _⟩
  case a => rw [ckAccum_snoc_a, BitVec.toNat_add]
  case b => rw [ckAccum_snoc_b, BitVec.toNat_add]

/-- A sum over the positions of a sequence, one byte longer: the old positions, then the new one. -/
theorem sum_positions_snoc (f : Nat → Nat → Nat) (s : List Byte) (x : Byte) :
    ∑ i ∈ Finset.range (s ++ [x]).length, f i ((s ++ [x]).getD i 0).toNat
      = ∑ i ∈ Finset.range s.length, f i (s.getD i 0).toNat + f s.length x.toNat := by
  rw [List.length_append, List.length_singleton, Finset.sum_range_succ]
  congr 1
  · refine Finset.sum_congr rfl fun i hi => ?_
    rw [List.getD_append _ _ _ _ (Finset.mem_range.1 hi)]
  · simp

/-- R101: A is the sum of the bytes modulo 256. -/
theorem toNat_ckAccum_a (s : List Byte) :
    (ckAccum s).a.toNat = (∑ i ∈ Finset.range s.length, (s.getD i 0).toNat) % 256 := by
  induction s using List.reverseRecOn with
  | nil => rfl
  | append_singleton s x ih =>
    rw [sum_positions_snoc (fun _ y => y), ckAccum_snoc_a, BitVec.toNat_add, ih, Nat.mod_add_mod]

/-- One byte more adds 1 to every weight of B's sum, which adds A's sum to it. -/
theorem weighted_sum_snoc (s : List Byte) (x : Byte) :
    ∑ i ∈ Finset.range (s ++ [x]).length, ((s ++ [x]).length - i) * ((s ++ [x]).getD i 0).toNat
      = ∑ i ∈ Finset.range s.length, (s.length - i) * (s.getD i 0).toNat
        + ∑ i ∈ Finset.range (s ++ [x]).length, ((s ++ [x]).getD i 0).toNat := by
  rw [sum_positions_snoc (fun i y => ((s ++ [x]).length - i) * y), sum_positions_snoc (fun _ y => y),
    ← add_assoc, ← Finset.sum_add_distrib, List.length_append, List.length_singleton]
  congr 1
  · refine Finset.sum_congr rfl fun i hi => ?_
    rw [Nat.succ_sub (Finset.mem_range.1 hi).le, Nat.succ_mul]
  · simp

/-- R101: B is the sum of the bytes, each weighted by its distance to the end, modulo 256. -/
theorem toNat_ckAccum_b (s : List Byte) :
    (ckAccum s).b.toNat
      = (∑ i ∈ Finset.range s.length, (s.length - i) * (s.getD i 0).toNat) % 256 := by
  induction s using List.reverseRecOn with
  | nil => rfl
  | append_singleton s x ih =>
    rw [weighted_sum_snoc, ckAccum_snoc_b, BitVec.toNat_add, ih, toNat_ckAccum_a, ← Nat.add_mod]

/-- R101: what a change of one byte does to A and B. -/
theorem ckAccum_set_add {s : List Byte} {i : Nat} {x : Byte} (h : s[i]? = some x) (δ : Byte) :
    (ckAccum (s.set i (x + δ))).a = (ckAccum s).a + δ
    ∧ (ckAccum (s.set i (x + δ))).b = (ckAccum s).b + BitVec.ofNat 8 (s.length - i) * δ := by
  induction s using List.reverseRecOn with
  | nil => cases h
  | append_singleton s y ih =>
    obtain hi | rfl : i < s.length ∨ i = s.length := by
      have := (List.getElem?_eq_some_iff.1 h).1
      rw [List.length_append, List.length_singleton] at this
      omega
    · rw [List.getElem?_append_left hi] at h
      obtain ⟨ha, hb⟩ := ih h
      have hw : BitVec.ofNat 8 (s.length + 1 - i) = BitVec.ofNat 8 (s.length - i) + 1 := by
        rw [Nat.succ_sub hi.le, Nat.succ_eq_add_one, BitVec.ofNat_add]; rfl
      rw [List.set_append_left _ _ hi, List.length_append, List.length_singleton, hw]
      simp only [ckAccum_snoc_b, ckAccum_snoc_a, ha, hb]
      constructor <;> ring
    · obtain rfl : y = x := by simpa using h
      have hset : (s ++ [y]).set s.length (y + δ) = s ++ [y + δ] := by simp
      have hw : BitVec.ofNat 8 ((s ++ [y]).length - s.length) = 1 := by simp
      rw [hset, hw]
      simp only [ckAccum_snoc_b, ckAccum_snoc_a]
      constructor <;> ring

/-- Settles O18. -/
theorem checksumClosedForms : Obligations.ChecksumClosedForms := fun s =>
  ⟨toNat_ckAccum_a s, toNat_ckAccum_b s, fun _ _ δ h => ckAccum_set_add h δ⟩

/-- R108: opposite changes leave A as it was, and change B by the distance times δ. -/
theorem ckAccum_set_add_set_sub {s : List Byte} {i j : Nat} {a b : Byte} (hij : i < j)
    (hi : s[i]? = some a) (hj : s[j]? = some b) (δ : Byte) :
    (ckAccum ((s.set i (a + δ)).set j (b - δ))).a = (ckAccum s).a
    ∧ (ckAccum ((s.set i (a + δ)).set j (b - δ))).b
        = (ckAccum s).b + BitVec.ofNat 8 (j - i) * δ := by
  have hlen : j < s.length := (List.getElem?_eq_some_iff.1 hj).1
  have hj' : (s.set i (a + δ))[j]? = some b := by rw [List.getElem?_set_ne hij.ne, hj]
  have hw : BitVec.ofNat 8 (s.length - i)
      = BitVec.ofNat 8 (s.length - j) + BitVec.ofNat 8 (j - i) := by
    rw [← BitVec.ofNat_add]
    congr 1
    omega
  obtain ⟨ha₁, hb₁⟩ := ckAccum_set_add hi δ
  obtain ⟨ha₂, hb₂⟩ := ckAccum_set_add hj' (-δ)
  rw [sub_eq_add_neg, ha₂, hb₂, ha₁, hb₁, List.length_set, hw]
  constructor <;> ring

/-- Settles O23: A stays as it was, so the checksum does exactly when B does. -/
theorem oppositeErrorsPassExactlyByDistance : Obligations.OppositeErrorsPassExactlyByDistance := by
  intro s i j a b δ hij hi hj
  obtain ⟨ha, hb⟩ := ckAccum_set_add_set_sub hij hi hj δ
  have hzero : BitVec.ofNat 8 (j - i) * δ = 0 ↔ ((j - i) * δ.toNat) % 256 = 0 := by
    rw [← BitVec.toNat_inj, BitVec.toNat_mul, BitVec.toNat_ofNat, Nat.mod_mul_mod]
    rfl
  rw [checksum_eq_iff, ha, hb, ← hzero, and_iff_right rfl, add_eq_left]

/-! ## Encoded frames -/

/-- R102: a payload that fits encodes to its head and the two accumulators. -/
theorem encodeFrame_of_fits (d : Byte) {p : List Byte} (h : p.length ≤ 255) :
    encodeFrame d p
      = some (frameHead d p ++ [(ckAccum (frameHead d p)).a, (ckAccum (frameHead d p)).b]) := by
  rw [encodeFrame_eq, if_pos h]

/-- R70: the length byte of a payload that fits is its length. -/
theorem toNat_lengthByte {p : List Byte} (h : p.length ≤ 255) :
    (BitVec.ofNat 8 p.length).toNat = p.length := by
  rw [BitVec.toNat_ofNat, Nat.mod_eq_of_lt (by omega)]

/-- Settles O19. -/
theorem encodedFrameHasTheWireLayout : Obligations.EncodedFrameHasTheWireLayout := by
  refine fun d p => ⟨encodeFrame_of_too_long d, fun h => ⟨_, encodeFrame_of_fits d h, ?_⟩⟩
  have hhead : 4 + p.length = (frameHead d p).length := by rw [frameHead_length, add_comm]
  refine ⟨?length, rfl, rfl, rfl, congrArg some (toNat_lengthByte h), List.take_left, ?checksum⟩
  case length => simp; omega
  case checksum =>
    rw [hhead, List.drop_left, List.take_left, checksum, hiByte_beWord, loByte_beWord]

/-- R104: what verifies is a head followed by its own accumulators. -/
theorem verify_append_iff {h : List Byte} (hl : 4 ≤ h.length) (a b : Byte) :
    verify (h ++ [a, b]) = true ↔ (ckAccum h).a = a ∧ (ckAccum h).b = b := by
  rw [verify_append h a b hl, Bool.and_eq_true, beq_iff_eq, beq_iff_eq]

theorem four_le_frameHead_length (d : Byte) (p : List Byte) : 4 ≤ (frameHead d p).length := by
  simp

/-- R106: what the encoder makes verifies. -/
theorem verify_encoded (d : Byte) (p : List Byte) :
    verify (frameHead d p ++ [(ckAccum (frameHead d p)).a, (ckAccum (frameHead d p)).b]) = true :=
  (verify_append_iff (four_le_frameHead_length d p) _ _).2 ⟨rfl, rfl⟩

/-- Settles O20. -/
theorem encodedFrameVerifiesAndDecodes : Obligations.EncodedFrameVerifiesAndDecodes := by
  refine fun d p h => ⟨_, encodeFrame_of_fits d h, verify_encoded d p, ?_⟩
  refine (decodeFrame_cons _ _ _ _ _ _).2 ⟨rfl, rfl, ?length, verify_encoded d p, ?frame⟩
  case length => simp [toNat_lengthByte h]
  case frame => rw [toNat_lengthByte h]; exact congrArg (Frame.mk d) List.take_left.symm

/-- Settles O21: only a sequence of four bytes and more has a length byte to decode by. -/
theorem decodedFrameIsStructurallySound : Obligations.DecodedFrameIsStructurallySound := by
  intro w f
  match w with
  | [] | [_] | [_, _] | [_, _, _] => simp [decodeFrame]
  | a :: b :: d :: l :: rest =>
    have hlength :
        rest.length = l.toNat + 2 ↔ 6 + l.toNat = (a :: b :: d :: l :: rest).length := by
      simp only [List.length_cons]
      omega
    rw [decodeFrame_cons, hlength]
    constructor
    · rintro ⟨rfl, rfl, hlen, hv, rfl⟩
      refine ⟨length_of_verify hv, rfl, rfl, congrArg some hlen, hv, rfl, ?_⟩
      rw [← hlen, Nat.add_sub_cancel_left]
      rfl
    · rintro ⟨-, hsync1, hsync2, hlen, hv, hdesc, hpayload⟩
      have hlen' := Option.some.inj hlen
      rw [← hlen', Nat.add_sub_cancel_left] at hpayload
      obtain ⟨desc, payload⟩ := f
      obtain rfl : d = desc := Option.some.inj hdesc
      exact ⟨Option.some.inj hsync1, Option.some.inj hsync2, hlen', hv,
        congrArg (Frame.mk d) hpayload⟩

/-! ## A single byte error -/

/-- R107: a change of one byte shows in A. -/
theorem ckAccum_set_a_ne {s : List Byte} {i : Nat} {x : Byte} (hi : i < s.length)
    (hx : s[i]? ≠ some x) : (ckAccum (s.set i x)).a ≠ (ckAccum s).a := by
  have hget : s[i]? = some s[i] := List.getElem?_eq_getElem hi
  obtain ⟨ha, -⟩ := ckAccum_set_add hget (x - s[i])
  rw [add_sub_cancel] at ha
  intro h
  rw [h, left_eq_add, sub_eq_zero] at ha
  exact hx (ha ▸ hget)

/-- R107: a change in the head shows in A, a change of a checksum byte in that byte itself. -/
theorem not_verify_set {h : List Byte} {i : Nat} {x : Byte} (hl : 4 ≤ h.length)
    (hi : i < h.length + 2) (hx : (h ++ [(ckAccum h).a, (ckAccum h).b])[i]? ≠ some x) :
    verify ((h ++ [(ckAccum h).a, (ckAccum h).b]).set i x) = false := by
  rw [Bool.eq_false_iff]
  obtain hhead | rfl | rfl : i < h.length ∨ i = h.length ∨ i = h.length + 1 := by omega
  · rw [List.getElem?_append_left hhead] at hx
    rw [List.set_append_left _ _ hhead, Ne, verify_append_iff (by rwa [List.length_set])]
    exact fun hv => ckAccum_set_a_ne hhead hx hv.1
  · have hset : (h ++ [(ckAccum h).a, (ckAccum h).b]).set h.length x = h ++ [x, (ckAccum h).b] := by
      simp
    rw [hset, Ne, verify_append_iff hl]
    rintro ⟨rfl, -⟩
    simp at hx
  · have hset :
        (h ++ [(ckAccum h).a, (ckAccum h).b]).set (h.length + 1) x = h ++ [(ckAccum h).a, x] := by
      simp
    rw [hset, Ne, verify_append_iff hl]
    rintro ⟨-, rfl⟩
    simp at hx

/-- Settles O22. -/
theorem singleByteErrorIsDetected : Obligations.SingleByteErrorIsDetected := by
  intro d p w i x hw hi hx
  rw [encodeFrame_eq] at hw
  split at hw
  case isFalse => cases hw
  case isTrue =>
    cases hw
    rw [List.length_append] at hi
    exact not_verify_set (four_le_frameHead_length d p) hi hx

end Sys2Proof.Machine
end

section
/-! PROOFS. SR's operations one by one (R121 to R126), and the tests of R124 on the bytes gathered;
O24 to O26 from them. -/

namespace Sys2Proof.Machine

theorem execSelReplay_of_nil {u : State} (h : u.regs.srRep = []) :
    execSelReplay u = .fault .rescanQueueEmpty := by
  simp [execSelReplay, repPop, h]

/-- Settles O24. -/
theorem selectionOperationsAnswer : Obligations.SelectionOperationsAnswer := fun _ =>
  ⟨fun _ _ => execSelReplay_of_cons, execSelReplay_of_nil, fun _ => execSelInput_of_some, rfl⟩

/-- Settles O25: each is a write to S' by definition. -/
theorem scanOperationsAnswer : Obligations.ScanOperationsAnswer :=
  fun _ => ⟨rfl, rfl, fun _ => rfl⟩

/-- R124: after the descriptor and the length come the payload and two checksum bytes. -/
theorem frameComplete_cons (d l : Byte) (rest : List Byte) :
    frameComplete (d :: l :: rest) = true ↔ rest.length = l.toNat + 2 := by
  simp only [frameComplete, List.length_cons, decide_eq_true_eq]
  omega

theorem assembleFrame_cons {d l : Byte} {rest : List Byte} (h : rest.length = l.toNat + 2) :
    assembleFrame (d :: l :: rest) = some { desc := d, payload := rest.take l.toNat } := by
  simp [assembleFrame, (frameComplete_cons d l rest).2 h]

theorem execAccEmit_of_assembleFrame {u : State} {b : Byte} {f : Frame}
    (h : assembleFrame (u.regs.srAcc ++ [b]) = some f) :
    execAccEmit b u = .next (backToScan (u.setFrame (some f))) := by
  rw [execAccEmit, h]

/-- Settles O26. -/
theorem accumulateOperationsAnswer : Obligations.AccumulateOperationsAnswer := by
  refine fun s b => ⟨rfl, ?emit, rfl⟩
  intro d l rest hacc hlen
  exact execAccEmit_of_assembleFrame (hacc ▸ assembleFrame_cons hlen)

end Sys2Proof.Machine
end

section
/-! PROOFS. What a cycle does to SR, to `rx_ready` and to the frame output: the cycle of an
examined byte is R134's action on it, and a cycle without one leaves SR alone; O27 to O33 and O36 from
them. -/

namespace Sys2Proof.Machine

/-! ## The action on one byte -/

/-- R122: the action in SCAN. -/
theorem srAct_of_scan {st : SrState} (h : st.mode = .scan) (b : Byte) :
    srAct st b =
      if st.pre = true ∧ b = 0x65 then ⟨⟨.acc, false, []⟩, none, []⟩
      else ⟨⟨.scan, b == 0x75, st.acc⟩, none, []⟩ := by
  simp only [srAct, h]
  split
  case isTrue => rfl
  case isFalse => by_cases hb : b = 0x75#8 <;> simp [hb]

theorem srAct_out_of_scan {st : SrState} (h : st.mode = .scan) (b : Byte) :
    (srAct st b).out = none := by
  rw [srAct_of_scan h]
  split <;> rfl

/-- R129: a byte is dropped, gathered or queued again, and no byte is added. -/
theorem srAct_length_le (st : SrState) (b : Byte) :
    (srAct st b).st.acc.length + (srAct st b).requeue.length ≤ st.acc.length + 1 := by
  cases hm : st.mode with
  | scan => rw [srAct_of_scan hm]; split <;> simp
  | acc => rw [srAct_of_acc hm]; split_ifs <;> simp

/-- R124, R128: what the gathered bytes must be for the action to emit a frame. -/
theorem srAct_out_eq_some {st : SrState} {b : Byte} {f : Frame} (h : (srAct st b).out = some f) :
    st.mode = .acc ∧ frameComplete (st.acc ++ [b]) = true
    ∧ candidateVerifies (st.acc ++ [b]) = true ∧ assembleFrame (st.acc ++ [b]) = some f
    ∧ (srAct st b).st = ⟨.scan, false, []⟩ := by
  cases hm : st.mode with
  | scan =>
    rw [srAct_out_of_scan hm] at h
    cases h
  | acc =>
    rw [srAct_of_acc hm] at h ⊢
    split_ifs at h ⊢ with hf hv
    exact ⟨rfl, hf, hv, h, rfl⟩

/-- R126: what a wrong checksum makes of a complete frame. -/
theorem srAct_of_rejected {st : SrState} {b : Byte} (hm : st.mode = .acc)
    (hf : frameComplete (st.acc ++ [b]) = true) (hv : candidateVerifies (st.acc ++ [b]) = false) :
    srAct st b = ⟨⟨.scan, false, []⟩, none, st.acc ++ [b]⟩ := by
  simp [srAct_of_acc hm, hf, hv]

/-- R124, R105: a complete candidate with a valid checksum is a frame that decodes, behind the sync
marker. -/
theorem decodeFrame_of_candidate {a : List Byte} {f : Frame} (hf : frameComplete a = true)
    (hv : candidateVerifies a = true) (ha : assembleFrame a = some f) :
    decodeFrame (0x75 :: 0x65 :: a) = some f := by
  match a, hf with
  | d :: l :: rest, hf =>
    have hlen := (frameComplete_cons d l rest).1 hf
    rw [assembleFrame_cons hlen, Option.some.injEq] at ha
    exact (decodeFrame_cons _ _ _ _ _ _).2 ⟨rfl, rfl, hlen, hv, ha.symm⟩

/-! ## SR across a cycle -/

/-- R121: the byte selection of R190, and what it makes of SR's half. -/
theorem refSr_cases (r : Regs) (i : CycleIn) :
    (∃ b q, r.srRep = b :: q ∧ refSr r i = srHalfOf r.sr b none q)
    ∨ (∃ b, r.srRep = [] ∧ i.rxErr = false ∧ i.rx = some b
        ∧ refSr r i = srHalfOf r.sr b (some b) [])
    ∨ (r.srRep = [] ∧ (i.rxErr = true ∨ i.rx = none)
        ∧ refSr r i = ⟨none, none, none, r.sr, []⟩) := by
  unfold refSr
  cases hq : r.srRep with
  | cons b q => exact .inl ⟨b, q, rfl, rfl⟩
  | nil =>
    cases he : i.rxErr with
    | true => simp
    | false => cases hx : i.rx <;> simp

/-- R190: SR's signals and registers after a cycle, read off SR's half. -/
theorem step_sr {s t : State} {x : SrHalf} (h : step s = .next t) (hr : s.inp.rst = false)
    (hx : refSr s.regs s.inp = x) :
    t.wires.exam = x.exam ∧ t.wires.taken = x.taken ∧ t.wires.frame = x.frame
    ∧ t.regs.sr = x.st ∧ t.regs.srRep = x.rep := by
  rw [← hx, ← step_srHalf h hr, step_regs h]
  exact ⟨rfl, rfl, rfl, rfl, rfl⟩

/-- R121: the cycle of a queued byte. -/
theorem step_of_queued {s t : State} {b : Byte} {q : List Byte} (h : step s = .next t)
    (hr : s.inp.rst = false) (hq : s.regs.srRep = b :: q) :
    t.wires.exam = some b ∧ t.wires.taken = none ∧ t.wires.frame = (srAct s.regs.sr b).out
    ∧ t.regs.sr = (srAct s.regs.sr b).st
    ∧ t.regs.srRep = (srAct s.regs.sr b).requeue ++ q := by
  obtain ⟨b', q', hq', href⟩ | ⟨b', hq', -⟩ | ⟨hq', -⟩ := refSr_cases s.regs s.inp
  · cases hq.symm.trans hq'
    exact step_sr h hr href
  · cases hq.symm.trans hq'
  · cases hq.symm.trans hq'

/-- R230: a reset cycle examines nothing. -/
theorem rst_of_exam {s t : State} {b : Byte} (h : step s = .next t) (hb : t.wires.exam = some b) :
    s.inp.rst = false := by
  cases hr : s.inp.rst with
  | false => rfl
  | true =>
    obtain ⟨-, hwires, -⟩ := step_next_of_rst h hr
    simp [hwires] at hb

/-- R122 to R126: the cycle of an examined byte is R134's action on it. The byte stood first in the
queue, or was taken with the queue empty. -/
theorem step_of_exam {s t : State} {b : Byte} (h : step s = .next t)
    (hb : t.wires.exam = some b) :
    t.wires.frame = (srAct s.regs.sr b).out ∧ t.regs.sr = (srAct s.regs.sr b).st
    ∧ t.regs.srRep = (srAct s.regs.sr b).requeue ++ s.regs.srRep.tail
    ∧ s.regs.srRep ++ t.wires.taken.toList = b :: s.regs.srRep.tail := by
  have hr := rst_of_exam h hb
  obtain ⟨c, q, hq, href⟩ | ⟨c, hq, -, -, href⟩ | ⟨hq, -, href⟩ := refSr_cases s.regs s.inp
    <;> obtain ⟨hexam, htaken, hframe, hst, hrep⟩ := step_sr h hr href
    <;> cases hb.symm.trans hexam
  · exact ⟨hframe, hst, by rw [hrep, hq]; rfl, by rw [htaken, hq]; exact List.append_nil _⟩
  · exact ⟨hframe, hst, by rw [hrep, hq]; rfl, by rw [htaken, hq]; rfl⟩

/-- R130: a cycle without reset that examines no byte had none queued, takes none, and changes
nothing of SR. -/
theorem step_of_no_exam {s t : State} (h : step s = .next t) (hr : s.inp.rst = false)
    (hb : t.wires.exam = none) :
    s.regs.srRep = [] ∧ t.regs.srRep = [] ∧ t.regs.sr = s.regs.sr ∧ t.wires.taken = none
    ∧ t.wires.frame = none := by
  obtain ⟨c, q, hq, href⟩ | ⟨c, hq, -, -, href⟩ | ⟨hq, -, href⟩ := refSr_cases s.regs s.inp
    <;> obtain ⟨hexam, htaken, hframe, hst, hrep⟩ := step_sr h hr href
    <;> cases hb.symm.trans hexam
  exact ⟨hq, hrep, hst, htaken, hframe⟩

/-- The SR registers of two states agree one by one. -/
theorem sr_eq_iff (r r' : Regs) :
    r.sr = r'.sr ↔ r.srMode = r'.srMode ∧ r.srPre = r'.srPre ∧ r.srAcc = r'.srAcc := by
  simp [Regs.sr]

/-- Settles O36: a cycle without a byte leaves the run as it was, and one with a byte is the run's
first action. -/
theorem cyclesComputeTheStreamRun : Obligations.CyclesComputeTheStreamRun := by
  intro s t q fs st h hr hrun
  cases hb : t.wires.exam with
  | none =>
    obtain ⟨hq, hq', hst, htaken, hframe⟩ := step_of_no_exam h hr hb
    simpa [hq, hq', hst, htaken, hframe] using hrun
  | some b =>
    obtain ⟨hframe, hst, hrep, hqueue⟩ := step_of_exam h hb
    rw [hrep, hst, List.append_assoc] at hrun
    rw [hqueue, hframe, List.cons_append]
    exact .examine b _ _ _ _ hrun

/-- Settles O29. -/
theorem idleCycleLeavesReassemblerUnchanged : Obligations.IdleCycleLeavesReassemblerUnchanged := by
  intro s t h hr hb
  obtain ⟨hq, hq', hst, -, hframe⟩ := step_of_no_exam h hr hb
  obtain ⟨hmode, hpre, hacc⟩ := (sr_eq_iff _ _).1 hst
  exact ⟨hmode, hpre, hacc, hq'.trans hq.symm, hframe⟩

/-! ## `rx_ready` and the frame output -/

/-- R34, R120: no CC operation drives `rx_ready`, and only routing drives the frame output. -/
theorem exec_cc_out {i : Instr} {g : Group} {u v : State} (hg : g ∈ ccGroups)
    (hi : i.group = some g) (h : exec i u = .next v) :
    v.out.rxReady = u.out.rxReady ∧ (g ≠ .ccRoute → v.out.fo = u.out.fo) := by
  cases i <;> cases hi <;> simp [ccGroups] at hg
  case reqAccept =>
    obtain ⟨r, w, -, -, rfl⟩ := execReqAccept_next h
    exact ⟨rfl, fun _ => rfl⟩
  case cmpCommandError =>
    obtain ⟨p, k, -, -, rfl⟩ := execCmpCommandError_next h
    exact ⟨rfl, fun _ => rfl⟩
  case tick =>
    obtain ⟨p, -, rfl⟩ := execTick_next h
    exact ⟨rfl, fun _ => rfl⟩
  case txByte =>
    obtain ⟨p, b, -, -, rfl⟩ := execTxByte_next h
    exact ⟨rfl, fun _ => rfl⟩
  case routeReply =>
    obtain ⟨k, -, rfl⟩ := execRouteReply_next h
    exact ⟨rfl, fun hroute => absurd rfl hroute⟩
  case forwardFrame =>
    obtain ⟨f, -, rfl⟩ := execForwardFrame_next h
    exact ⟨rfl, fun hroute => absurd rfl hroute⟩
  case cmpOk | cmpRxIoError | cmpTxIoError | cmpTimeout =>
    obtain ⟨p, -, rfl⟩ := completePending_next h
    exact ⟨rfl, fun _ => rfl⟩
  case reqAlreadyPending | reqInvalidArgument | reqNone | hold | txStall =>
    cases h
    exact ⟨rfl, fun _ => rfl⟩

theorem runGroup_cc_out {s u v : State} {g : Group} (hg : g ∈ ccGroups)
    (h : runGroup s g u = .next v) :
    v.out.rxReady = u.out.rxReady ∧ (g ≠ .ccRoute → v.out.fo = u.out.fo) := by
  obtain rfl | ⟨i, hi, h⟩ := runGroup_cases h
  · exact ⟨rfl, fun _ => rfl⟩
  · exact exec_cc_out hg hi h

/-- R190: CC's groups leave `rx_ready` as it was, and the frame output as routing left it. -/
theorem runGroups_ccGroups_out {s u w : State} (h : runGroups s ccGroups u = .next w) :
    ∃ v, runGroup s .ccRoute u = .next v ∧ w.out.rxReady = u.out.rxReady
      ∧ w.out.fo = v.out.fo := by
  obtain ⟨a, ha, h⟩ := runGroups_cons_next h
  obtain ⟨b, hb, h⟩ := runGroups_cons_next h
  obtain ⟨c, hc, h⟩ := runGroups_cons_next h
  obtain ⟨d, hd, h⟩ := runGroups_cons_next h
  cases h
  obtain ⟨rxA, -⟩ := runGroup_cc_out (by decide) ha
  obtain ⟨rxB, foB⟩ := runGroup_cc_out (by decide) hb
  obtain ⟨rxC, foC⟩ := runGroup_cc_out (by decide) hc
  obtain ⟨rxD, foD⟩ := runGroup_cc_out (by decide) hd
  refine ⟨a, ha, rxD.trans (rxC.trans (rxB.trans rxA)), ?_⟩
  exact (foD (by decide)).trans ((foC (by decide)).trans (foB (by decide)))

/-- R120, R231: `rx_ready` of a cycle, reset or not, is that of its start. -/
theorem step_rxReady {s t : State} (h : step s = .next t) : t.out.rxReady = rxReadyFlag s := by
  cases hr : s.inp.rst with
  | true =>
    obtain ⟨-, -, hout⟩ := step_next_of_rst h hr
    rw [hout, rxReadyFlag, hr]
    rfl
  | false =>
    obtain ⟨tx, v, w, -, hv, hw, rfl⟩ := step_next_halves h hr
    have sr : SrWrites (s.begun tx) v := runGroups_srWrites (List.Subset.refl _) hv
    obtain ⟨-, -, hrx, -⟩ := runGroups_ccGroups_out hw
    rw [endCycle_out, hrx, sr.out]
    rfl

theorem rxReadyFlag_iff (s : State) :
    rxReadyFlag s = true ↔ s.regs.srRep = [] ∧ s.inp.rst = false := by
  simp [rxReadyFlag, and_comm]

/-- R120: the stall, cycle by cycle. -/
theorem step_rxReady_iff {s t : State} (h : step s = .next t) :
    t.out.rxReady = true ↔ s.regs.srRep = [] ∧ s.inp.rst = false := by
  rw [step_rxReady h, rxReadyFlag_iff]

/-- R120: a cycle with a queued byte shows `rx_ready` = 0. -/
theorem step_rxReady_of_queued {s t : State} {b : Byte} {q : List Byte} (h : step s = .next t)
    (hq : s.regs.srRep = b :: q) : t.out.rxReady = false := by
  simp [step_rxReady h, rxReadyFlag, hq]

/-- R163: a cycle in which SR emits no frame forwards none. -/
theorem step_fo_of_not_emitted {s t : State} (h : step s = .next t) (hr : s.inp.rst = false)
    (he : emitted s = none) : t.out.fo = none := by
  obtain ⟨tx, v, w, -, hv, hw, rfl⟩ := step_next_halves h hr
  have sr : SrWrites (s.begun tx) v := runGroups_srWrites (List.Subset.refl _) hv
  obtain ⟨a, ha, -, hfo⟩ := runGroups_ccGroups_out hw
  have hop : decodeGroup .ccRoute (selWord s) = none := by
    rw [decodeGroup_ccRoute_selWord hr, he, Option.map_none]
  cases (runGroup_of_none hop v).symm.trans ha
  rw [endCycle_out, hfo, sr.out]
  rfl

/-- R125, R160: the frame of R79's condition `fe` is the one that the action on the examined byte
emits. -/
theorem emitted_of_examined {s : State} {b : Byte} (hb : examined s = some b) :
    emitted s = (srAct s.regs.sr b).out := by
  cases hm : s.regs.srMode with
  | scan =>
    simp [emitted, candidate, hm, srAct_out_of_scan (st := s.regs.sr) hm]
  | acc =>
    have hc : candidate s = some (s.regs.srAcc ++ [b]) := by simp [candidate, hm, hb]
    rw [srAct_of_acc hm]
    simp only [emitted, hc, Regs.sr]
    split_ifs with hv hf <;> simp [assembleFrame, *]

theorem emitted_of_examined_none {s : State} (hb : examined s = none) : emitted s = none := by
  cases hm : s.regs.srMode <;> simp [emitted, candidate, hm, hb]

/-- R121, R230: the byte a cycle examines, reset or not. -/
theorem step_exam {s t : State} (h : step s = .next t) : t.wires.exam = examined s := by
  cases hr : s.inp.rst with
  | true =>
    obtain ⟨-, hwires, -⟩ := step_next_of_rst h hr
    rw [hwires, examined, hr]
    rfl
  | false =>
    obtain ⟨b, q, -, hb, -, href⟩ | ⟨b, -, -, hb, -, href⟩ | ⟨-, hb, -, href⟩ :=
      srSelect_cases hr <;>
    · obtain ⟨hexam, -⟩ := step_sr h hr href
      exact hexam.trans hb.symm

/-- R160: the frame SR hands to CC in a cycle is the one of R79's condition `fe`. -/
theorem step_frame {s t : State} (h : step s = .next t) : t.wires.frame = emitted s := by
  cases hb : t.wires.exam with
  | some b =>
    obtain ⟨hframe, -⟩ := step_of_exam h hb
    rw [hframe, emitted_of_examined ((step_exam h).symm.trans hb)]
  | none =>
    rw [emitted_of_examined_none ((step_exam h).symm.trans hb)]
    cases hr : s.inp.rst with
    | true =>
      obtain ⟨-, hwires, -⟩ := step_next_of_rst h hr
      rw [hwires]
    | false =>
      obtain ⟨-, -, -, -, hframe⟩ := step_of_no_exam h hr hb
      exact hframe

/-! ## The statements about one cycle -/

/-- R121: the examined byte, case by case. -/
theorem examined_eq (s : State) :
    examined s =
      if s.inp.rst = true then none
      else if s.regs.srRep ≠ [] then s.regs.srRep.head?
      else if s.inp.rxErr = true then none else s.inp.rx := by
  cases hq : s.regs.srRep <;> simp [examined, hq]

/-- R21: a byte is taken exactly under the handshake, with `rx_ready` as R120 has it. -/
theorem step_taken_iff {s t : State} (h : step s = .next t) (b : Byte) :
    t.wires.taken = some b ↔
      s.inp.rx = some b ∧ s.regs.srRep = [] ∧ s.inp.rxErr = false ∧ s.inp.rst = false := by
  cases hr : s.inp.rst with
  | true =>
    obtain ⟨-, hwires, -⟩ := step_next_of_rst h hr
    simp [hwires]
  | false =>
    obtain ⟨c, q, hq, href⟩ | ⟨c, hq, he, hx, href⟩ | ⟨hq, hno, href⟩ := refSr_cases s.regs s.inp
      <;> obtain ⟨-, htaken, -⟩ := step_sr h hr href
    · simp [htaken, srHalfOf, hq]
    · simp [htaken, srHalfOf, hq, he, hx]
    · obtain he | hx := hno
      · simp [htaken, he]
      · simp [htaken, hx]

/-- Settles O27. -/
theorem cycleExaminesTheSelectedByte : Obligations.CycleExaminesTheSelectedByte := by
  refine fun s t h => ⟨(step_exam h).trans (examined_eq s), fun b => ?_⟩
  rw [step_taken_iff h, step_rxReady_iff h]
  tauto

/-- Settles O28. -/
theorem inputReadyExactlyWithEmptyQueue : Obligations.InputReadyExactlyWithEmptyQueue := by
  refine fun s t h => ⟨step_rxReady_iff h, fun hq => ?_⟩
  rw [Option.eq_none_iff_forall_ne_some]
  intro b hb
  obtain ⟨-, hempty, -⟩ := (step_taken_iff h b).1 hb
  exact hq hempty

/-- Settles O30. -/
theorem scanningCycleTracksTheSyncMarker : Obligations.ScanningCycleTracksTheSyncMarker := by
  intro s t b h hm hb
  obtain ⟨hframe, hst, -⟩ := step_of_exam h hb
  refine ⟨hframe.trans (srAct_out_of_scan hm b), ?_⟩
  rw [srAct_of_scan hm] at hst
  split at hst
  case isTrue hmarker =>
    obtain ⟨hmode, hpre, hacc⟩ := (sr_eq_iff t.regs ⟨.acc, false, [], [], none⟩).1 hst
    exact ⟨fun _ => ⟨hmode, hpre, hacc⟩, fun hno => absurd hmarker hno⟩
  case isFalse hmarker =>
    obtain ⟨hmode, hpre, hacc⟩ :=
      (sr_eq_iff t.regs ⟨.scan, b == 0x75, s.regs.srAcc, [], none⟩).1 hst
    exact ⟨fun hyes => absurd hyes hmarker, fun _ => ⟨hmode, hacc, by simp [hpre]⟩⟩

/-- Settles O31. -/
theorem onlyValidFramesAreEmitted : Obligations.OnlyValidFramesAreEmitted := by
  intro s t f h hf
  cases hb : t.wires.exam with
  | none =>
    rw [step_frame h, emitted_of_examined_none ((step_exam h).symm.trans hb)] at hf
    cases hf
  | some b =>
    obtain ⟨hframe, hst, -⟩ := step_of_exam h hb
    obtain ⟨hm, hcomplete, hvalid, hassemble, hback⟩ := srAct_out_eq_some (hframe.symm.trans hf)
    obtain ⟨hmode, hpre, hacc⟩ := (sr_eq_iff t.regs .reset).1 (hst.trans hback)
    exact ⟨b, rfl, hm, decodeFrame_of_candidate hcomplete hvalid hassemble, hmode, hpre, hacc⟩

/-- Settles O32. -/
theorem rejectedFrameIsRescanned : Obligations.RejectedFrameIsRescanned := by
  intro s t b d l rest h hb hm hacc hlen hv
  have hf : frameComplete (s.regs.srAcc ++ [b]) = true :=
    hacc ▸ (frameComplete_cons d l rest).2 hlen
  have hact := srAct_of_rejected (st := s.regs.sr) hm hf hv
  obtain ⟨hframe, hst, hrep, -⟩ := step_of_exam h hb
  rw [hact] at hframe hst hrep
  obtain ⟨hmode, hpre, hclear⟩ := (sr_eq_iff t.regs .reset).1 hst
  have hfo := step_fo_of_not_emitted h (rst_of_exam h hb) ((step_frame h).symm.trans hframe)
  exact ⟨hframe, hfo, hmode, hpre, hclear, hrep⟩

/-- Settles O33. -/
theorem rescanQueueMakesProgress : Obligations.RescanQueueMakesProgress := by
  intro s t b q h hr hq
  obtain ⟨hexam, htaken, -, hst, hrep⟩ := step_of_queued h hr hq
  refine ⟨hexam, htaken, step_rxReady_of_queued h hq, ?_⟩
  have hacc : t.regs.srAcc = (srAct s.regs.sr b).st.acc := congrArg SrState.acc hst
  have hle : _ ≤ s.regs.srAcc.length + 1 := srAct_length_le s.regs.sr b
  simp only [hacc, hrep, hq, List.length_append, List.length_cons]
  omega

end Sys2Proof.Machine
end

section
/-! PROOFS. R134's stream-level run: how much work a queue can still make, which every action
lessens; that the run ends with one result; and what it makes of a valid frame; O37 and O38 from them. -/

namespace Sys2Proof.Machine

/-! ## The run ends -/

/-- The bytes gathered in ACC, which a wrong checksum queues again. -/
def SrState.held (st : SrState) : Nat :=
  match st.mode with
  | .scan => 0
  | .acc => st.acc.length

/-- A bound on the actions that `n` queued bytes can still take. With T bytes in all, the scan
passes a byte, or opens a frame that takes at most T - 1 actions to be rejected, and goes on with T - 1
bytes: T(T + 1)/2 in all. In ACC, at most an action for each queued byte comes before that. -/
def srWork (st : SrState) (n : Nat) : Nat :=
  (st.held + n + 1).choose 2 +
    match st.mode with
    | .scan => 0
    | .acc => n

theorem choose_two_succ (n : Nat) : (n + 1).choose 2 = n + n.choose 2 := by
  rw [Nat.choose_succ_succ' n 1, Nat.choose_one_right]

theorem srWork_scan (v : Bool) (a : List Byte) (n : Nat) :
    srWork ⟨.scan, v, a⟩ n = (n + 1).choose 2 := by
  simp [srWork, SrState.held]

theorem srWork_acc (v : Bool) (a : List Byte) (n : Nat) :
    srWork ⟨.acc, v, a⟩ n = (a.length + n + 1).choose 2 + n := rfl

/-- R134: every action leaves less work than there was, also the one that queues bytes again. -/
theorem srWork_srAct_lt (st : SrState) (b : Byte) (n : Nat) :
    srWork (srAct st b).st ((srAct st b).requeue.length + n) < srWork st (n + 1) := by
  obtain ⟨mode, pre, acc⟩ := st
  cases mode with
  | scan =>
    have hsucc := choose_two_succ (n + 1)
    rw [srAct_of_scan rfl]
    split <;> simp only [srWork_scan, srWork_acc, List.length_nil, Nat.zero_add] <;> omega
  | acc =>
    have hsame : acc.length + 1 + n + 1 = acc.length + (n + 1) + 1 := by omega
    have hfewer : (n + 1).choose 2 ≤ (acc.length + (n + 1) + 1).choose 2 :=
      Nat.choose_le_choose 2 (by omega)
    rw [srAct_of_acc rfl]
    split_ifs <;>
      simp only [srWork_scan, srWork_acc, List.length_append, List.length_singleton,
        List.length_nil, Nat.zero_add, hsame] <;>
      omega

/-- R134: the run of a queue is the action on its head, then the run of what that leaves. -/
theorem srRun_cons_iff {b : Byte} {q : List Byte} {st st' : SrState} {fs : List Frame} :
    SrRun (b :: q) st fs st' ↔
      ∃ gs, SrRun ((srAct st b).requeue ++ q) (srAct st b).st gs st'
        ∧ fs = (srAct st b).out.toList ++ gs := by
  constructor
  · rintro (_ | ⟨_, _, _, _, gs, rest⟩)
    exact ⟨gs, rest, rfl⟩
  · rintro ⟨gs, rest, rfl⟩
    exact .examine b q st st' gs rest

/-- R134: by induction on the work that is left. -/
theorem exists_srRun (q : List Byte) (st : SrState) : ∃ fs st', SrRun q st fs st' := by
  induction hn : srWork st q.length using Nat.strong_induction_on generalizing q st with
  | _ n ih =>
    cases q with
    | nil => exact ⟨[], st, .done st⟩
    | cons b q =>
      have hless := srWork_srAct_lt st b q.length
      rw [← List.length_append, ← List.length_cons (a := b), hn] at hless
      obtain ⟨gs, st', rest⟩ := ih _ hless _ _ rfl
      exact ⟨_, st', .examine b q st st' gs rest⟩

/-- R134: the action on a byte is a function, so a run has one result. -/
theorem srRun_unique {q : List Byte} {st st' st'' : SrState} {fs gs : List Frame}
    (h : SrRun q st fs st') (k : SrRun q st gs st'') : gs = fs ∧ st'' = st' := by
  induction h generalizing gs with
  | done st =>
    cases k
    exact ⟨rfl, rfl⟩
  | examine b q st st' fs rest ih =>
    obtain ⟨hs, rest', rfl⟩ := srRun_cons_iff.1 k
    obtain ⟨rfl, rfl⟩ := ih rest'
    exact ⟨rfl, rfl⟩

/-- Settles O37. -/
theorem streamRunEndsWithOneResult : Obligations.StreamRunEndsWithOneResult := by
  intro q st
  obtain ⟨fs, st', hrun⟩ := exists_srRun q st
  exact ⟨fs, st', hrun, fun _ _ => srRun_unique hrun⟩

/-! ## The run of a valid frame -/

/-- A byte that emits nothing and queues nothing only moves SR on. -/
theorem srRun_of_silent {b : Byte} {q : List Byte} {st st₁ st' : SrState} {fs : List Frame}
    (hact : srAct st b = ⟨st₁, none, []⟩) (rest : SrRun q st₁ fs st') :
    SrRun (b :: q) st fs st' :=
  srRun_cons_iff.2 ⟨fs, by rwa [hact], by rw [hact]; rfl⟩

/-- R122: the sync marker opens a frame, whatever byte stands before it. -/
theorem srRun_marker {q : List Byte} {v : Bool} {a : List Byte} {fs : List Frame} {st' : SrState}
    (rest : SrRun q ⟨.acc, false, []⟩ fs st') :
    SrRun (0x75 :: 0x65 :: q) ⟨.scan, v, a⟩ fs st' := by
  have hsync1 : srAct ⟨.scan, v, a⟩ 0x75 = ⟨⟨.scan, true, a⟩, none, []⟩ := by
    simp [srAct_of_scan]
  have hmarker : srAct ⟨.scan, true, a⟩ 0x65 = ⟨⟨.acc, false, []⟩, none, []⟩ := by
    simp [srAct_of_scan]
  exact srRun_of_silent hsync1 (srRun_of_silent hmarker rest)

/-- R122: in SCAN a byte other than the end of a marker leaves SR in SCAN. -/
theorem srAct_srReset (x : Byte) : srAct srReset x = ⟨⟨.scan, x == 0x75, []⟩, none, []⟩ := by
  simp [srAct_of_scan, srReset]

/-- R124: a complete frame is not complete before its last byte. -/
theorem not_frameComplete_of_append {a r : List Byte} (hr : r ≠ [])
    (h : frameComplete (a ++ r) = true) : frameComplete a = false := by
  have hpos := List.length_pos_iff.2 hr
  rw [frameComplete_eq, decide_eq_true_eq, List.length_append] at h
  rw [frameComplete_eq, decide_eq_false_iff_not]
  rintro ⟨hfour, hlen⟩
  rw [List.getD_append _ _ _ _ (by omega)] at h
  omega

/-- R123, R125: the rest of a valid frame is gathered byte by byte, and its last byte emits it. -/
theorem srRun_gather {r a : List Byte} {f : Frame} (hr : r ≠ [])
    (hf : frameComplete (a ++ r) = true) (hv : candidateVerifies (a ++ r) = true)
    (ha : assembleFrame (a ++ r) = some f) : SrRun r ⟨.acc, false, a⟩ [f] srReset := by
  induction r generalizing a with
  | nil => exact absurd rfl hr
  | cons b r ih =>
    have hact := srAct_of_acc (st := ⟨.acc, false, a⟩) rfl b
    cases r with
    | nil =>
      have hemit : srAct ⟨.acc, false, a⟩ b = ⟨srReset, some f, []⟩ := by
        rw [hact, if_pos hf, if_pos hv, ha]
        rfl
      exact srRun_cons_iff.2 ⟨[], by rw [hemit]; exact .done srReset, by rw [hemit]; rfl⟩
    | cons c r =>
      rw [List.append_cons] at hf hv ha
      have hopen := not_frameComplete_of_append (List.cons_ne_nil c r) hf
      have happend : srAct ⟨.acc, false, a⟩ b = ⟨⟨.acc, false, a ++ [b]⟩, none, []⟩ := by
        simp [hact, hopen]
      exact srRun_of_silent happend (ih (List.cons_ne_nil c r) hf hv ha)

/-- R125, R131: an encoded frame, behind its sync marker, is emitted. -/
theorem srRun_encoded (d : Byte) {p : List Byte} (h : p.length ≤ 255) (v : Bool) (a : List Byte) :
    SrRun (frameHead d p ++ [(ckAccum (frameHead d p)).a, (ckAccum (frameHead d p)).b])
      ⟨.scan, v, a⟩ [{ desc := d, payload := p }] srReset := by
  have hlen : (p ++ [(ckAccum (frameHead d p)).a, (ckAccum (frameHead d p)).b]).length
      = (BitVec.ofNat 8 p.length).toNat + 2 := by
    rw [toNat_lengthByte h, List.length_append]
    rfl
  refine srRun_marker (srRun_gather (a := []) (List.cons_ne_nil _ _) ?complete ?valid ?frame)
  case complete => exact (frameComplete_cons _ _ _).2 hlen
  case valid => exact verify_encoded d p
  case frame =>
    refine (assembleFrame_cons hlen).trans ?_
    rw [toNat_lengthByte h, List.take_left]

/-- Settles O38. -/
theorem extraByteBeforeAFrameIsHarmless : Obligations.ExtraByteBeforeAFrameIsHarmless :=
  fun x d _ h =>
    ⟨_, encodeFrame_of_fits d h, srRun_of_silent (srAct_srReset x) (srRun_encoded d h _ _)⟩

end Sys2Proof.Machine
end

section
/-! PROOFS. The stall (R120, R132, R241): that every cycle keeps R32, that the queue drains one
byte a cycle and the work of `srWork` bounds every stall, and that a nested rescan makes one of more
than 259 cycles; O60 and O34 from them. -/

namespace Sys2Proof.Machine

/-! ## R32 across a cycle -/

/-- R152, R32: the command that a free slot takes has its frame before it. -/
theorem ccInvariant_of_accepted {r : Regs} {i : CycleIn} (h : r.cc = acceptedCommand i) :
    CcInvariant r := by
  intro p hp
  rw [h, acceptedCommand, Option.bind_eq_some_iff] at hp
  obtain ⟨q, -, hp⟩ := hp
  obtain ⟨w, hw, rfl⟩ := Option.map_eq_some_iff.1 hp
  have hfits : q.payload.length ≤ 255 := by
    by_contra hlong
    rw [encodeFrame_of_too_long _ (Nat.lt_of_not_le hlong)] at hw
    cases hw
  have hlen : w.length = q.payload.length + 6 := by
    rw [encodeFrame_of_fits _ hfits, Option.some.injEq] at hw
    rw [← hw, List.length_append, frameHead_length]
    rfl
  refine ⟨fun _ => ?_, nofun, ?_, ?_, q.payload, hw⟩ <;>
    simp only [hlen, Config.frameOverhead, Config.txbufBytes] <;> omega

/-- R168, R190: the slot after the cycle of a pending command. -/
theorem step_cc_of_pending {s t : State} {p : Pending} (h : step s = .next t)
    (hr : s.inp.rst = false) (hc : s.regs.cc = some p) :
    t.regs.cc = if completionDue s then none else some (refPending p s.inp) := by
  by_cases hm : txMoves p s.inp
  · obtain ⟨-, -, -, hcc⟩ := step_next_of_moves h hr hc hm
    exact hcc
  · obtain ⟨-, -, hcc⟩ := step_next_of_not_moves h hr hc hm
    exact hcc

/-- R32, R192: every cycle keeps the CC invariants. -/
theorem step_ccInvariant {s t : State} (h : step s = .next t) (hinv : CcInvariant s.regs) :
    CcInvariant t.regs := by
  cases hr : s.inp.rst with
  | true =>
    obtain ⟨hregs, -⟩ := step_next_of_rst h hr
    rw [hregs]
    exact ccInvariant_reset
  | false =>
    cases hc : s.regs.cc with
    | none =>
      obtain ⟨-, -, hcc⟩ := step_next_of_idle h hr hc
      exact ccInvariant_of_accepted hcc
    | some p =>
      cases hd : completionDue s with
      | true =>
        have hfree : t.regs.cc = none := by rw [step_cc_of_pending h hr hc, hd, if_pos rfl]
        intro q hq
        cases hfree.symm.trans hq
      | false => exact ccInvariant_of_not_due h hr hc hd hinv

/-- R32, R192: a cycle answers, and what it answers can answer again. -/
theorem step_answers_ccInvariant {s : State} (hinv : CcInvariant s.regs) :
    ∃ t, step s = .next t ∧ CcInvariant t.regs := by
  obtain ⟨tx, htx⟩ := txOffer_ok_of_ccInvariant hinv
  obtain ⟨t, h⟩ := step_answers htx
  exact ⟨t, h, step_ccInvariant h hinv⟩

/-! ## Cycles without reset -/

/-- None of the next `n` cycles is a reset. -/
def NoReset (n : Nat) (s : State) : Prop :=
  ∀ k, k < n → (inputAt s k).rst = false

theorem NoReset.now {n : Nat} {s : State} (h : NoReset (n + 1) s) : s.inp.rst = false :=
  inputAt_zero s ▸ h 0 n.succ_pos

theorem NoReset.of_step {n : Nat} {s t : State} (hrst : NoReset (n + 1) s) (h : step s = .next t) :
    NoReset n t := by
  intro k hk
  rw [inputAt_of_step h]
  exact hrst (k + 1) (Nat.succ_lt_succ hk)

/-! ## The queue drains, and the stall ends -/

/-- R132: a queue of `n` bytes drains in `n` cycles unless bytes are queued again. -/
theorem drainsIn_of_noReset {n : Nat} {s : State} (hinv : CcInvariant s.regs) (hrst : NoReset n s)
    (hn : s.regs.srRep.length = n) : drainsIn n s := by
  induction n generalizing s with
  | zero => exact List.length_eq_zero_iff.1 hn
  | succ n ih =>
    obtain ⟨b, q, hq⟩ := List.exists_cons_of_length_eq_add_one hn
    obtain ⟨t, h, htinv⟩ := step_answers_ccInvariant hinv
    refine ⟨t, h, step_rxReady_of_queued h hq, fun htail => ih htinv (hrst.of_step h) ?_⟩
    rw [htail, List.length_tail, hn, Nat.add_sub_cancel]

/-- The work that SR's registers and queue can still make. -/
def stallWork (s : State) : Nat := srWork s.regs.sr s.regs.srRep.length

/-- R134: each cycle of a stall takes work off. -/
theorem stallWork_lt_of_queued {s t : State} {b : Byte} {q : List Byte} (h : step s = .next t)
    (hr : s.inp.rst = false) (hq : s.regs.srRep = b :: q) : stallWork t < stallWork s := by
  obtain ⟨-, -, -, hst, hrep⟩ := step_of_queued h hr hq
  rw [stallWork, stallWork, hst, hrep, hq, List.length_append]
  exact srWork_srAct_lt s.regs.sr b q.length

/-- R132: a stall ends when its work is done, at the latest. -/
theorem readyWithin_of_stallWork_lt {n : Nat} {s : State} (hinv : CcInvariant s.regs)
    (hrst : NoReset n s) (hn : stallWork s < n) : readyWithin n s := by
  induction n generalizing s with
  | zero => exact absurd hn (Nat.not_lt_zero _)
  | succ n ih =>
    obtain ⟨t, h, htinv⟩ := step_answers_ccInvariant hinv
    refine ⟨t, h, ?_⟩
    cases hq : s.regs.srRep with
    | nil => exact .inl ((step_rxReady_iff h).2 ⟨hq, hrst.now⟩)
    | cons b q =>
      have hless := stallWork_lt_of_queued h hrst.now hq
      exact .inr (ih htinv (hrst.of_step h) (by omega))

theorem srWork_le (st : SrState) (n : Nat) :
    srWork st n ≤ (st.acc.length + n + 1).choose 2 + n := by
  obtain ⟨mode, pre, acc⟩ := st
  cases mode with
  | scan =>
    rw [srWork_scan]
    exact (Nat.choose_le_choose 2 (by omega)).trans (Nat.le_add_right _ _)
  | acc => rw [srWork_acc]

/-- R129: the work of the 259 bytes that SR can hold. -/
theorem stallWork_lt_of_srInvariant {s : State} (hinv : SrInvariant s.regs) :
    stallWork s < 33930 := by
  obtain ⟨-, -, -, hheld⟩ := hinv
  have hqueued : s.regs.srRep.length ≤ 259 := (Nat.le_add_left _ _).trans hheld
  calc stallWork s
      ≤ (s.regs.srAcc.length + s.regs.srRep.length + 1).choose 2 + s.regs.srRep.length :=
        srWork_le s.regs.sr _
    _ ≤ Nat.choose 260 2 + 259 :=
        Nat.add_le_add (Nat.choose_le_choose 2 (Nat.succ_le_succ hheld)) hqueued
    _ < 33930 := by rw [Nat.choose_two_right]; decide

/-- Settles O60. -/
theorem inputStallDrainsTheQueueAndEnds : Obligations.InputStallDrainsTheQueueAndEnds := by
  rintro s ⟨hsr, hcc⟩
  refine ⟨fun hrst => ⟨?_, drainsIn_of_noReset hcc hrst rfl⟩, fun hrst => ?_⟩
  · obtain ⟨-, -, -, hheld⟩ := hsr
    exact (Nat.le_add_left _ _).trans hheld
  · exact readyWithin_of_stallWork_lt hcc hrst (stallWork_lt_of_srInvariant hsr)

/-! ## A nested rescan -/

/-- R134's actions on a queue keep finding a byte in it, `n` times. -/
def srStalls : Nat → SrState → List Byte → Prop
  | 0, _, _ => True
  | _ + 1, _, [] => False
  | n + 1, st, b :: q => srStalls n (srAct st b).st ((srAct st b).requeue ++ q)

/-- R120, R190: the cycles stall as long as the actions find a byte. -/
theorem stallsFor_of_srStalls {n : Nat} {s : State} (hinv : CcInvariant s.regs)
    (hrst : NoReset n s) (hstalls : srStalls n s.regs.sr s.regs.srRep) : stallsFor n s := by
  induction n generalizing s with
  | zero => trivial
  | succ n ih =>
    cases hq : s.regs.srRep with
    | nil =>
      rw [hq] at hstalls
      exact hstalls.elim
    | cons b q =>
      obtain ⟨t, h, htinv⟩ := step_answers_ccInvariant hinv
      obtain ⟨-, -, -, hst, hrep⟩ := step_of_queued h hrst.now hq
      rw [hq] at hstalls
      refine ⟨t, h, hrst.now, step_rxReady_of_queued h hq, ih htinv (hrst.of_step h) ?_⟩
      rw [hst, hrep]
      exact hstalls

/-- R121: no action takes more than one byte off the queue. -/
theorem srStalls_of_length {n : Nat} {st : SrState} {q : List Byte} (h : n ≤ q.length) :
    srStalls n st q := by
  induction n generalizing st q with
  | zero => trivial
  | succ n ih =>
    match q with
    | b :: q =>
      refine ih ?_
      rw [List.length_append]
      rw [List.length_cons] at h
      omega

/-- The false frame 00 00 00 00 behind its marker, first in a queue: its six bytes are examined, and
then the four behind the marker once more (R126). -/
theorem srStalls_of_falseFrame {n : Nat} {q : List Byte} (h : n ≤ q.length + 4) :
    srStalls (n + 6) srReset ([0x75, 0x65, 0x00, 0x00, 0x00, 0x00] ++ q) := by
  have hstalls : srStalls n srReset ([0x00, 0x00, 0x00, 0x00] ++ q) :=
    srStalls_of_length (by rwa [List.length_append, Nat.add_comm])
  exact hstalls

/-- SR scans, with a false frame and `rest` to be examined again; the next `n` inputs are idle. -/
def nestedRescan (n : Nat) (rest : List Byte) : State :=
  { State.reset with
    regs := { Regs.reset with srRep := [0x75, 0x65, 0x00, 0x00, 0x00, 0x00] ++ rest }
    ports := List.replicate n {} }

theorem nestedRescan_length (n : Nat) (rest : List Byte) :
    (nestedRescan n rest).regs.srRep.length = rest.length + 6 := rfl

theorem nestedRescan_invariant (n : Nat) {rest : List Byte} (h : rest.length ≤ 253) :
    Invariant (nestedRescan n rest) := by
  refine ⟨⟨fun _ => rfl, nofun, nofun, ?_⟩, nofun⟩
  calc 0 + (rest.length + 6)
      ≤ 0 + (253 + 6) := by omega
    _ = Config.rxbufBytes := rfl

theorem nestedRescan_noReset (n : Nat) (rest : List Byte) : NoReset n (nestedRescan n rest) := by
  intro k hk
  simp only [inputAt, nestedRescan, List.getElem?_replicate, if_pos hk]
  rfl

/-- R126: one cycle for each byte queued, and one for each of the four queued again. -/
theorem nestedRescan_stalls {n : Nat} {rest : List Byte} (h : rest.length ≤ 253)
    (hn : n ≤ rest.length + 4) : stallsFor (n + 6) (nestedRescan (n + 6) rest) := by
  obtain ⟨-, hcc⟩ := nestedRescan_invariant (n + 6) h
  exact stallsFor_of_srStalls hcc (nestedRescan_noReset _ rest) (srStalls_of_falseFrame hn)

/-- Settles O34, with bytes 00 behind the false frame. -/
theorem nestedRescanStallsBeyondTheStatedBound :
    Obligations.NestedRescanStallsBeyondTheStatedBound := by
  have hlen : (List.replicate 253 (0x00 : Byte)).length = 253 := List.length_replicate
  refine ⟨nestedRescan 260 (List.replicate 253 0x00), nestedRescan_invariant 260 hlen.le, rfl, ?_,
    nestedRescan_stalls (n := 254) hlen.le (by omega)⟩
  rw [nestedRescan_length, hlen]

end Sys2Proof.Machine
end

section
/-! PROOFS. The Command Correlator's operations in the states that select them, and what a cycle
shows at CC's ports (R150 to R176): its outputs as functions of S and the inputs, each said once, and
O39 to O43, O46, O50 to O52 and O55 to O57 from them. -/

namespace Sys2Proof.Machine

/-! ## The operations -/

/-- R152: what an acceptance loads is the frame that FC.ENCODE answers. -/
theorem execReqAccept_of_encoded {u : State} {r : Request} {w : List Byte} (hq : u.inp.req = some r)
    (hw : encodeFrame r.desc r.payload = some w) :
    execReqAccept u = .next (loadSlot (raiseRq u .accepted) r w) := by
  simp only [execReqAccept, hq, hw]

/-- R156: the byte that goes to the sink, and the slot unless the command completes. -/
theorem execTxByte_eq {u : State} {p : Pending} {b : Byte} (hc : u.regs.cc = some p)
    (hb : p.txf[p.txi]? = some b) :
    execTxByte u = .next (if completionDue u then u.setSent (some b) else
      (u.setSent (some b)).setCc (u.nxt.cc.map p.advance)) := by
  simp only [execTxByte, withPending_of_pending hc, memReadTx, hb]
  split <;> rfl

/-- R170: with a command pending, CC.TICK answers. -/
theorem execTick_of_pending {u : State} {p : Pending} (hc : u.regs.cc = some p) :
    execTick u = .next (u.setCc (u.nxt.cc.map fun q => { q with timer := p.timer - 1 })) :=
  withPending_of_pending hc _

/-- Settles O39: a payload of at most 255 bytes encodes. -/
theorem requestOperationsAnswer : Obligations.RequestOperationsAnswer := by
  refine fun s => ⟨rfl, rfl, rfl, fun r hq hfits => ?_⟩
  have hw := encodeFrame_of_fits r.desc hfits
  exact ⟨_, hw, execReqAccept_of_encoded hq hw⟩

/-- Settles O40, by whether the command completes in the cycle. -/
theorem transmitOperationsAnswer : Obligations.TransmitOperationsAnswer := by
  refine fun s => ⟨rfl, fun p b hc hb => ⟨fun hd => ?due, fun hd => ?held⟩⟩
  case due | held => exact (execTxByte_eq hc hb).trans (by rw [hd]; rfl)

/-- R161: the matching reply, in terms of S and the frame of the cycle. -/
theorem replyAck_eq_some_iff {s : State} {k : Byte} :
    replyAck s = some k ↔
      ∃ f p, emitted s = some f ∧ s.regs.cc = some p ∧ p.phase = .wait
        ∧ s.cfgReply p.desc f = some k := by
  unfold replyAck
  cases emitted s with
  | none => simp
  | some f =>
    cases s.regs.cc with
    | none => simp
    | some p => simp

/-- Settles O41. -/
theorem routeOperationsAnswer : Obligations.RouteOperationsAnswer := by
  refine fun s f hf => ⟨execForwardFrame_of_emitted hf, fun p k hc hp hk => ?_⟩
  exact execRouteReply_of_reply (replyAck_eq_some_iff.2 ⟨f, p, hf, hc, hp, hk⟩)

/-- Settles O42. -/
theorem completionOperationsAnswer : Obligations.CompletionOperationsAnswer := by
  intro s p hc
  have pending : ∀ st, completePending s st = .next (complete s st 0 p.desc) :=
    completePending_of_pending hc
  exact ⟨pending .ok, fun k hk => execCmpCommandError_of_reply hc hk, pending .ioError,
    pending .ioError, pending .timeoutError⟩

/-- Settles O43. -/
theorem tickAndHoldAnswer : Obligations.TickAndHoldAnswer := by
  refine fun s => ⟨rfl, fun p q hc hq => (execTick_of_pending hc).trans ?_⟩
  rw [hq]
  rfl

/-! ## `busy`, the byte offered to the sink, and the routing of a frame -/

/-- R34: no CC operation drives `busy`, and only routing passes an ACK byte on. -/
theorem exec_cc_busy_ack {i : Instr} {g : Group} {u v : State} (hg : g ∈ ccGroups)
    (hi : i.group = some g) (h : exec i u = .next v) :
    v.out.busy = u.out.busy ∧ (g ≠ .ccRoute → v.wires.ack = u.wires.ack) := by
  cases i <;> cases hi <;> simp [ccGroups] at hg
  case reqAccept =>
    obtain ⟨r, w, -, -, rfl⟩ := execReqAccept_next h
    exact ⟨rfl, fun _ => rfl⟩
  case cmpCommandError =>
    obtain ⟨p, k, -, -, rfl⟩ := execCmpCommandError_next h
    exact ⟨rfl, fun _ => rfl⟩
  case tick =>
    obtain ⟨p, -, rfl⟩ := execTick_next h
    exact ⟨rfl, fun _ => rfl⟩
  case txByte =>
    obtain ⟨p, b, -, -, rfl⟩ := execTxByte_next h
    exact ⟨rfl, fun _ => rfl⟩
  case routeReply =>
    obtain ⟨k, -, rfl⟩ := execRouteReply_next h
    exact ⟨rfl, fun hroute => absurd rfl hroute⟩
  case forwardFrame =>
    obtain ⟨f, -, rfl⟩ := execForwardFrame_next h
    exact ⟨rfl, fun _ => rfl⟩
  case cmpOk | cmpRxIoError | cmpTxIoError | cmpTimeout =>
    obtain ⟨p, -, rfl⟩ := completePending_next h
    exact ⟨rfl, fun _ => rfl⟩
  case reqAlreadyPending | reqInvalidArgument | reqNone | hold | txStall =>
    cases h
    exact ⟨rfl, fun _ => rfl⟩

theorem runGroup_cc_busy_ack {s u v : State} {g : Group} (hg : g ∈ ccGroups)
    (h : runGroup s g u = .next v) :
    v.out.busy = u.out.busy ∧ (g ≠ .ccRoute → v.wires.ack = u.wires.ack) := by
  obtain rfl | ⟨i, hi, h⟩ := runGroup_cases h
  · exact ⟨rfl, fun _ => rfl⟩
  · exact exec_cc_busy_ack hg hi h

/-- R190: CC's groups leave `busy` as it was, and the ACK byte as routing left it. -/
theorem runGroups_ccGroups_busy_ack {s u w : State} (h : runGroups s ccGroups u = .next w) :
    ∃ v, runGroup s .ccRoute u = .next v ∧ w.out.busy = u.out.busy
      ∧ w.wires.ack = v.wires.ack := by
  obtain ⟨a, ha, h⟩ := runGroups_cons_next h
  obtain ⟨b, hb, h⟩ := runGroups_cons_next h
  obtain ⟨c, hc, h⟩ := runGroups_cons_next h
  obtain ⟨d, hd, h⟩ := runGroups_cons_next h
  cases h
  obtain ⟨busyA, -⟩ := runGroup_cc_busy_ack (by decide) ha
  obtain ⟨busyB, ackB⟩ := runGroup_cc_busy_ack (by decide) hb
  obtain ⟨busyC, ackC⟩ := runGroup_cc_busy_ack (by decide) hc
  obtain ⟨busyD, ackD⟩ := runGroup_cc_busy_ack (by decide) hd
  refine ⟨a, ha, busyD.trans (busyC.trans (busyB.trans busyA)), ?_⟩
  exact (ackD (by decide)).trans ((ackC (by decide)).trans (ackB (by decide)))

/-- R36, R231: `busy` of a cycle, reset or not, is that of its start. -/
theorem step_busy {s t : State} (h : step s = .next t) : t.out.busy = busyFlag s := by
  cases hr : s.inp.rst with
  | true =>
    obtain ⟨-, -, hout⟩ := step_next_of_rst h hr
    rw [hout, busyFlag, hr]
    rfl
  | false =>
    obtain ⟨tx, v, w, -, hv, hw, rfl⟩ := step_next_halves h hr
    have sr : SrWrites (s.begun tx) v := runGroups_srWrites (List.Subset.refl _) hv
    obtain ⟨-, -, hbusy, -⟩ := runGroups_ccGroups_busy_ack hw
    rw [endCycle_out, hbusy, sr.out]
    rfl

/-- R155, R231: the byte offered to the sink, reset or not, is that of the cycle's start. -/
theorem step_tx {s t : State} (h : step s = .next t) : txOffer s = .ok t.out.tx := by
  cases hr : s.inp.rst with
  | true =>
    obtain ⟨-, -, hout⟩ := step_next_of_rst h hr
    rw [hout, txOffer, hr]
    rfl
  | false =>
    obtain ⟨tx, v, w, htx, hv, hw, rfl⟩ := step_next_halves h hr
    have sr : SrWrites (s.begun tx) v := runGroups_srWrites (List.Subset.refl _) hv
    have cc : CcWrites v w := runGroups_ccWrites (List.Subset.refl _) hw
    rw [endCycle_out, cc.tx, sr.out, begun_out_tx, htx]

/-- R155: when a byte is offered, and which. -/
theorem txOffer_eq_some_iff {s : State} {b : Byte} :
    txOffer s = .ok (some b) ↔
      s.inp.rst = false ∧ ∃ p, s.regs.cc = some p ∧ p.phase = .tx ∧ p.txf[p.txi]? = some b := by
  constructor
  case mp =>
    intro h
    obtain ⟨he, -⟩ | ⟨hn, -⟩ | ⟨p, c, hb, hr, hoffer⟩ := txOffer_cases s
    · cases he.symm.trans h
    · cases hn.symm.trans h
    · cases hb.symm.trans h
      exact ⟨hr, p, hoffer⟩
  case mpr =>
    rintro ⟨hr, p, hc, hp, hb⟩
    simp [txOffer, hr, hc, hp, hb]

/-- Settles O46: both outputs are functions of the start of the cycle. -/
theorem statusOutputsShowTheStartState : Obligations.StatusOutputsShowTheStartState := by
  refine fun s t h => ⟨?busy, fun b => ?tx⟩
  case busy => simp [step_busy h, busyFlag, and_comm]
  case tx => rw [← txOffer_eq_some_iff, step_tx h, Except.ok.injEq]

/-- R161 to R163: what routing makes of the frame of the cycle. -/
theorem runGroup_ccRoute_eq {s u v : State} (h : runGroup s .ccRoute u = .next v)
    (hr : s.inp.rst = false) (hs : SameStart s u) (hfo : u.out.fo = none)
    (hack : u.wires.ack = none) :
    v.wires.ack = replyAck s
    ∧ v.out.fo = if (replyAck s).isSome = true then none else (emitted s).map (frameOut s) := by
  have hop := decodeGroup_ccRoute_selWord hr
  cases hf : emitted s with
  | none =>
    have hk : replyAck s = none := by simp [replyAck, hf]
    rw [hf] at hop
    cases (runGroup_of_none hop u).symm.trans h
    simp [hk, hack, hfo]
  | some f =>
    rw [hf] at hop
    rw [runGroup_of_some hop] at h
    cases hk : replyAck s with
    | none =>
      rw [hk] at h
      cases (execForwardFrame_of_emitted (hs.emitted.trans hf)).symm.trans h
      simp [hack, hs.frameOut]
    | some k =>
      rw [hk] at h
      cases (execRouteReply_of_reply (hs.replyAck.trans hk)).symm.trans h
      simp

/-- R161, R163, R231: the ACK byte and the frame output of a cycle, reset or not. -/
theorem step_ack_fo {s t : State} (h : step s = .next t) :
    t.wires.ack = replyAck s
    ∧ t.out.fo = if (replyAck s).isSome = true then none else (emitted s).map (frameOut s) := by
  cases hr : s.inp.rst with
  | true =>
    obtain ⟨-, hwires, hout⟩ := step_next_of_rst h hr
    simp [hwires, hout, replyAck, emitted_of_rst hr, Output.inactive]
  | false =>
    obtain ⟨tx, u, w, -, hu, hw, rfl⟩ := step_next_halves h hr
    have sr : SrWrites (s.begun tx) u := runGroups_srWrites (List.Subset.refl _) hu
    obtain ⟨v, hv, -, hack⟩ := runGroups_ccGroups_busy_ack hw
    obtain ⟨v', hv', -, hfo⟩ := runGroups_ccGroups_out hw
    cases hv.symm.trans hv'
    rw [endCycle_wires, endCycle_out, hack, hfo]
    refine runGroup_ccRoute_eq hv hr ((begun_sameStart s tx).trans sr.start) ?_
      (runGroups_srGroups_ack hu)
    rw [sr.out]
    rfl

/-- Settles O55. -/
theorem frameIsForwardedUnlessItIsTheReply : Obligations.FrameIsForwardedUnlessItIsTheReply := by
  intro s t h
  obtain ⟨hack, hfo⟩ := step_ack_fo h
  rw [hack, step_frame h, hfo]
  cases emitted s <;> cases replyAck s <;> rfl

/-- Settles O56. -/
theorem replyMatchesOnlyAWaitingCommand : Obligations.ReplyMatchesOnlyAWaitingCommand := by
  intro s t k h
  obtain ⟨hack, -⟩ := step_ack_fo h
  rw [hack, step_frame h, replyAck_eq_some_iff]

/-- R164: no frame is the reply to a command that is still being sent. -/
theorem replyAck_of_tx {s : State} {p : Pending} (hc : s.regs.cc = some p) (hp : p.phase = .tx) :
    replyAck s = none := by
  rw [Option.eq_none_iff_forall_ne_some]
  intro k hk
  obtain ⟨f, q, -, hq, hwait, -⟩ := replyAck_eq_some_iff.1 hk
  cases hc.symm.trans hq
  cases hp.symm.trans hwait

/-- Settles O57: routing forwards what is no matching reply. -/
theorem frameDuringTransmitIsForwarded : Obligations.FrameDuringTransmitIsForwarded := by
  intro s t p f h hc hp hf
  obtain ⟨hack, hfo⟩ := step_ack_fo h
  have hk : replyAck s = none := replyAck_of_tx hc hp
  have hemit : emitted s = some f := (step_frame h).symm.trans hf
  exact ⟨hack.trans hk, by rw [hfo, hk, hemit]; rfl⟩

/-! ## The completion of a pending command -/

/-- R162: a matching reply completes the command before any other cause. -/
theorem refCompletion_of_reply (p : Pending) (i : CycleIn) (k : Byte) :
    refCompletion p i (some k) =
      some ⟨if k = 0 then .ok else .commandError, k, p.desc⟩ := by
  by_cases h0 : k = 0
  · rw [h0]
    rfl
  · rw [if_neg h0, refCompletion, if_neg (by simpa using h0)]

/-- R165, R166, R171: the causes of a cycle without one. -/
theorem refCompletion_of_no_reply (p : Pending) (i : CycleIn) :
    refCompletion p i none =
      if i.rxErr = true then some ⟨.ioError, 0, p.desc⟩
      else if p.phase = .tx ∧ i.txErr = true then some ⟨.ioError, 0, p.desc⟩
      else if i.tick = true ∧ p.timer.toNat ≤ 1 then some ⟨.timeoutError, 0, p.desc⟩
      else none := by
  simp [refCompletion, and_comm]

/-- R167, R206: what the slot operation of a pending command reports. -/
theorem runGroup_ccSlot_cmp {s u v : State} {p : Pending} (h : runGroup s .ccSlot u = .next v)
    (hr : s.inp.rst = false) (hc : s.regs.cc = some p) (hs : SameStart s u)
    (hcmp : u.out.cmp = none) : v.out.cmp = refCompletion p s.inp (replyAck s) := by
  have hcu : u.regs.cc = some p := hs.regs ▸ hc
  rw [runGroup_of_some (decodeGroup_ccSlot_selWord hr hc)] at h
  cases hk : replyAck s with
  | some k =>
    rw [refCompletion_of_reply]
    by_cases h0 : k = 0
    · rw [hk, h0, if_pos rfl] at h
      cases (completePending_of_pending hcu .ok).symm.trans h
      rw [h0]
      rfl
    · rw [hk, if_neg (by simpa using h0), Option.isSome_some, if_pos rfl] at h
      cases (execCmpCommandError_of_reply hcu (hs.replyAck.trans hk)).symm.trans h
      rw [if_neg h0]
      rfl
  | none =>
    rw [refCompletion_of_no_reply]
    rw [hk, if_neg nofun, if_neg nofun] at h
    split_ifs at h ⊢
    · cases (completePending_of_pending hcu .ioError).symm.trans h
      rfl
    · cases (completePending_of_pending hcu .ioError).symm.trans h
      rfl
    · cases (completePending_of_pending hcu .timeoutError).symm.trans h
      rfl
    · cases (execTick_of_pending hcu).symm.trans h
      exact hcmp
    · cases h
      exact hcmp

/-- R167: the completion that a cycle reports for a pending command is R190's. -/
theorem step_cmp_of_pending {s t : State} {p : Pending} (h : step s = .next t)
    (hr : s.inp.rst = false) (hc : s.regs.cc = some p) :
    t.out.cmp = refCompletion p s.inp (replyAck s) := by
  obtain ⟨u, v, w, x, hs, -, -, hucmp, hv, -, -, -, hcmp⟩ := step_next_slot h hr
  exact hcmp.trans (runGroup_ccSlot_cmp hv hr hc hs hucmp)

/-- R168: a completion is due exactly when R190 reports one. -/
theorem completionDue_eq {s : State} {p : Pending} (hc : s.regs.cc = some p) :
    completionDue s = (refCompletion p s.inp (replyAck s)).isSome := by
  rw [Bool.eq_iff_iff, completionDue_of_pending hc]
  cases replyAck s with
  | some k => simp [refCompletion_of_reply]
  | none =>
    rw [refCompletion_of_no_reply]
    split_ifs <;> simp [*]

/-- R168, R190: the slot after a cycle, by what the cycle reports. -/
theorem step_cc_of_cmp {s t : State} {p : Pending} (h : step s = .next t)
    (hr : s.inp.rst = false) (hc : s.regs.cc = some p) :
    t.regs.cc = if t.out.cmp.isSome then none else some (refPending p s.inp) := by
  rw [step_cc_of_pending h hr hc, completionDue_eq hc, step_cmp_of_pending h hr hc]

/-- Settles O50: a command held after the cycle is R190's, of the same descriptor and frame. -/
theorem slotIsFreedExactlyByCompletion : Obligations.SlotIsFreedExactlyByCompletion := by
  intro s t p h hr hc
  have hcc := step_cc_of_cmp h hr hc
  cases hcmp : t.out.cmp with
  | some c => simp [hcc, hcmp]
  | none =>
    simp only [hcc, hcmp]
    refine ⟨by simp, fun q hq => ?_⟩
    cases hq
    exact ⟨rfl, rfl⟩

/-- R170, R171: with no reply and no transport error that counts, only the deadline is left. -/
theorem refCompletion_of_quiet {p : Pending} {i : CycleIn} (he : i.rxErr = false)
    (hte : i.txErr = false ∨ p.phase = .wait) :
    refCompletion p i none =
      if i.tick = true ∧ p.timer.toNat ≤ 1 then some ⟨.timeoutError, 0, p.desc⟩ else none := by
  have htx : ¬ (p.phase = .tx ∧ i.txErr = true) := by
    rintro ⟨hp, herr⟩
    simp [hp, herr] at hte
  rw [refCompletion_of_no_reply, he, if_neg Bool.false_ne_true, if_neg htx]

/-- Settles O51: the deadline is the only cause left, and the slot follows the report. -/
theorem deadlineCountsTicks : Obligations.DeadlineCountsTicks := by
  intro s t p h hr hc hk he hte
  have hcmp := step_cmp_of_pending h hr hc
  have hcc := step_cc_of_cmp h hr hc
  rw [hk, refCompletion_of_quiet he hte] at hcmp
  refine ⟨fun ht h2 => ?counted, fun ht h1 => ?due, fun ht => ?kept⟩
  case counted =>
    have hsub : (p.timer - 1).toNat + 1 = p.timer.toNat := by bv_omega
    rw [if_neg fun hdue => absurd hdue.2 (by omega)] at hcmp
    rw [hcmp] at hcc
    exact ⟨_, hcc, by rw [refPending_timer, if_pos ht, hsub], hcmp⟩
  case due =>
    rw [if_pos ⟨ht, h1⟩] at hcmp
    rw [hcmp] at hcc
    exact ⟨hcc, hcmp⟩
  case kept =>
    rw [ht, if_neg fun hdue => Bool.false_ne_true hdue.1] at hcmp
    rw [hcmp] at hcc
    exact ⟨_, hcc, by rw [refPending_timer, ht]; rfl, hcmp⟩

/-! ## A timer of 0 beside a timer of 1 -/

/-- R150, R153: how a busy block answers a request. -/
theorem step_rq_of_pending {s t : State} {p : Pending} (h : step s = .next t)
    (hr : s.inp.rst = false) (hc : s.regs.cc = some p) :
    t.out.rq = if s.inp.req.isSome = true then some .alreadyPending else none := by
  obtain ⟨u, v, w, x, -, -, -, -, -, -, hx, rfl, -⟩ := step_next_slot h hr
  rw [runGroup_of_some (decodeGroup_ccRequest_of_pending hr hc)] at hx
  split_ifs at hx ⊢ <;> cases hx <;> rfl

/-- R191: the whole output record of a cycle that starts with a command pending. -/
theorem step_out_of_pending {s t : State} {p : Pending} (h : step s = .next t)
    (hr : s.inp.rst = false) (hc : s.regs.cc = some p) :
    t.out =
      { rxReady := rxReadyFlag s
        busy := busyFlag s
        tx := if p.phase = .tx then p.txf[p.txi]? else none
        rq := if s.inp.req.isSome = true then some .alreadyPending else none
        cmp := refCompletion p s.inp (replyAck s)
        fo := if (replyAck s).isSome = true then none else (emitted s).map (frameOut s) } := by
  obtain ⟨-, hfo⟩ := step_ack_fo h
  rw [← step_rxReady h, ← step_busy h, ← txOffer_of_pending (step_tx h) hr hc,
    ← step_rq_of_pending h hr hc, ← step_cmp_of_pending h hr hc, ← hfo]

/-- R190: the registers after a cycle that starts with a command pending. -/
theorem step_regs_of_pending {s t : State} {p : Pending} (h : step s = .next t)
    (hr : s.inp.rst = false) (hc : s.regs.cc = some p) :
    t.regs =
      { srMode := (refSr s.regs s.inp).st.mode
        srPre := (refSr s.regs s.inp).st.pre
        srAcc := (refSr s.regs s.inp).st.acc
        srRep := (refSr s.regs s.inp).rep
        cc := if (refCompletion p s.inp (replyAck s)).isSome then none
              else some (refPending p s.inp) } := by
  obtain ⟨-, -, -, hst, hrep⟩ := step_sr h hr rfl
  rw [← hst, ← hrep, ← step_cmp_of_pending h hr hc, ← step_cc_of_cmp h hr hc]
  rfl

/-- The state with the command `p` in its slot. -/
def State.holding (s : State) (p : Pending) : State :=
  { s with regs := { s.regs with cc := some p } }

/-- R173: the command with a timer of 1. -/
def Pending.atOne (p : Pending) : Pending := { p with timer := 1 }

@[simp] theorem holding_inp (s : State) (p : Pending) : (s.holding p).inp = s.inp := rfl

@[simp] theorem holding_emitted (s : State) (p : Pending) : emitted (s.holding p) = emitted s := rfl

@[simp] theorem holding_refSr (s : State) (p : Pending) (i : CycleIn) :
    refSr (s.holding p).regs i = refSr s.regs i := rfl

theorem busyFlag_holding {s : State} {p : Pending} (hc : s.regs.cc = some p) (q : Pending) :
    busyFlag (s.holding q) = busyFlag s := by
  rw [busyFlag, busyFlag, hc]
  rfl

/-- R161: the deadline has no part in the matching of a reply. -/
theorem replyAck_holding_atOne {s : State} {p : Pending} (hc : s.regs.cc = some p) :
    replyAck (s.holding p.atOne) = replyAck s := by
  unfold replyAck
  rw [hc, holding_emitted]
  cases emitted s <;> rfl

/-- R155: the deadline has no part in the offer to the sink. -/
theorem txOffer_holding_atOne {s : State} {p : Pending} (hc : s.regs.cc = some p) :
    txOffer (s.holding p.atOne) = txOffer s := by
  unfold txOffer
  rw [hc, holding_inp]
  rfl

/-- R173: the deadline is due with a timer of 0 exactly when it is with a timer of 1. -/
theorem refCompletion_atOne {p : Pending} (h0 : p.timer = 0) (i : CycleIn) (k : Option Byte) :
    refCompletion p.atOne i k = refCompletion p i k := by
  cases k with
  | some k => rfl
  | none => simp [refCompletion_of_no_reply, Pending.atOne, h0]

/-- R171: a command with a timer of 0 that does not complete has had no tick. -/
theorem tick_of_refCompletion_none {p : Pending} {i : CycleIn} {k : Option Byte}
    (h0 : p.timer = 0) (hn : refCompletion p i k = none) : i.tick = false := by
  cases k with
  | some k => simp [refCompletion_of_reply] at hn
  | none =>
    rw [refCompletion_of_no_reply] at hn
    split_ifs at hn with he ht hdue
    simpa [h0] using hdue

/-- R190: without a tick a command held keeps its timer, and is else what it is with any timer. -/
theorem refPending_atOne {i : CycleIn} (ht : i.tick = false) (p : Pending) :
    refPending p.atOne i = (refPending p i).atOne := by
  unfold refPending
  rw [ht]
  rfl

/-- Settles O52: the two cycles have the same outputs and the same SR half, and their slots are both
freed or both unticked. -/
theorem zeroTimerBehavesLikeOne : Obligations.ZeroTimerBehavesLikeOne := by
  intro s t p hc h0 h
  obtain ⟨t', h'⟩ := step_answers ((txOffer_holding_atOne hc).trans (step_tx h))
  refine ⟨t', h', ?_⟩
  cases hr : s.inp.rst with
  | true =>
    obtain ⟨hregs, -, hout⟩ := step_next_of_rst h hr
    obtain ⟨hregs', -, hout'⟩ := step_next_of_rst h' hr
    exact ⟨hout'.trans hout.symm, .inl (hregs'.trans hregs.symm)⟩
  | false =>
    have hcc' : (s.holding p.atOne).regs.cc = some p.atOne := rfl
    have hout' := step_out_of_pending h' hr hcc'
    have hregs' := step_regs_of_pending h' hr hcc'
    rw [replyAck_holding_atOne hc, holding_inp, refCompletion_atOne h0] at hout' hregs'
    constructor
    case left =>
      rw [hout', step_out_of_pending h hr hc, busyFlag_holding hc]
      rfl
    case right =>
      have hregs := step_regs_of_pending h hr hc
      cases hn : refCompletion p s.inp (replyAck s) with
      | some c =>
        rw [hn] at hregs hregs'
        exact .inl (hregs'.trans hregs.symm)
      | none =>
        have ht := tick_of_refCompletion_none h0 hn
        rw [hn] at hregs hregs'
        refine .inr ⟨refPending p s.inp, ?held, ?zero, ?one⟩
        case held => rw [hregs]; rfl
        case zero => rw [refPending_timer, ht, h0]; rfl
        case one =>
          rw [hregs', hregs, holding_refSr, refPending_atOne ht]
          rfl

end Sys2Proof.Machine
end

section
/-! PROOFS. R29 across a cycle: what an action on one byte keeps of SR's registers, and the room
that RXBUF has for the byte; with R32 from before, O9. -/

namespace Sys2Proof.Machine

/-! ## The bytes gathered in ACC -/

/-- R29: bytes gathered in ACC that are no whole frame yet, as far as their length byte tells. -/
def PartialFrame (a : List Byte) : Prop :=
  ∀ d l rest, a = d :: l :: rest → a.length < l.toNat + 4

theorem partialFrame_nil : PartialFrame [] := nofun

/-- R50: so they leave room in RXBUF for a byte. -/
theorem PartialFrame.length_lt {a : List Byte} (h : PartialFrame a) : a.length < 259 := by
  match a, h with
  | [], _ => simp
  | [_], _ => simp
  | d :: l :: rest, h =>
    have hpart : (d :: l :: rest).length < l.toNat + 4 := h d l rest rfl
    have hbyte : l.toNat < 256 := l.isLt
    omega

/-- R123, R124: a byte more that completes no frame leaves them so. -/
theorem PartialFrame.append {a : List Byte} {b : Byte} (h : PartialFrame a)
    (hf : ¬ frameComplete (a ++ [b]) = true) : PartialFrame (a ++ [b]) := by
  match a, h with
  | [], _ => nofun
  | [d], _ =>
    rintro _ _ _ ⟨⟩
    exact Nat.lt_of_lt_of_le (by decide : 2 < 4) (Nat.le_add_left 4 _)
  | d :: l :: rest, h =>
    rintro _ _ _ ⟨⟩
    have hpart : (d :: l :: rest).length < l.toNat + 4 := h d l rest rfl
    rw [List.cons_append, List.cons_append, frameComplete_cons] at hf
    simp only [List.length_cons, List.length_append, List.length_nil] at hpart hf ⊢
    omega

/-! ## R29 across an action -/

/-- R29 of SR's registers other than the queue. -/
structure SrState.Valid (st : SrState) : Prop where
  acc_of_scan : st.mode = .scan → st.acc = []
  pre_of_acc  : st.mode = .acc → st.pre = false
  acc_of_acc  : st.mode = .acc → PartialFrame st.acc

/-- R29: its first three parts are about those registers, the last about RXBUF. -/
theorem srInvariant_iff (r : Regs) :
    SrInvariant r ↔ r.sr.Valid ∧ r.srAcc.length + r.srRep.length ≤ 259 :=
  ⟨fun ⟨hscan, hpre, hacc, hroom⟩ => ⟨⟨hscan, hpre, hacc⟩, hroom⟩,
   fun ⟨⟨hscan, hpre, hacc⟩, hroom⟩ => ⟨hscan, hpre, hacc, hroom⟩⟩

/-- R129: what SR has gathered leaves room for the byte that it takes with its queue empty. -/
theorem SrState.Valid.acc_length_lt {st : SrState} (h : st.Valid) : st.acc.length < 259 := by
  cases hm : st.mode with
  | scan => rw [h.acc_of_scan hm]; decide
  | acc => exact (h.acc_of_acc hm).length_lt

/-- How R125 and R126 leave SR, and how reset does. -/
theorem valid_srReset : srReset.Valid := ⟨fun _ => rfl, nofun, nofun⟩

/-- R122 to R126: an action keeps R29. -/
theorem SrState.Valid.srAct {st : SrState} (h : st.Valid) (b : Byte) : (srAct st b).st.Valid := by
  cases hm : st.mode with
  | scan =>
    rw [srAct_of_scan hm]
    split
    case isTrue => exact ⟨nofun, fun _ => rfl, fun _ => partialFrame_nil⟩
    case isFalse => exact ⟨fun _ => h.acc_of_scan hm, nofun, nofun⟩
  | acc =>
    rw [srAct_of_acc hm]
    split_ifs with hf hv
    · exact valid_srReset
    · exact valid_srReset
    · exact ⟨nofun, fun _ => h.pre_of_acc hm, fun _ => (h.acc_of_acc hm).append hf⟩

/-! ## R29 across a cycle -/

/-- R129: the action on a byte adds none to it, the gathered bytes and the rest of the queue. -/
theorem step_held_le {s t : State} {b : Byte} (h : step s = .next t) (hb : t.wires.exam = some b) :
    t.regs.srAcc.length + t.regs.srRep.length
      ≤ s.regs.srAcc.length + 1 + s.regs.srRep.tail.length := by
  obtain ⟨-, hst, hrep, -⟩ := step_of_exam h hb
  have hacc : t.regs.srAcc = (srAct s.regs.sr b).st.acc := congrArg SrState.acc hst
  have hle : _ ≤ s.regs.srAcc.length + 1 := srAct_length_le s.regs.sr b
  rw [hacc, hrep, List.length_append]
  omega

/-- R29, R192: every cycle keeps the SR invariants. -/
theorem step_srInvariant {s t : State} (h : step s = .next t) (hinv : SrInvariant s.regs) :
    SrInvariant t.regs := by
  cases hr : s.inp.rst with
  | true =>
    obtain ⟨hregs, -⟩ := step_next_of_rst h hr
    rw [hregs]
    exact srInvariant_reset
  | false =>
    obtain ⟨hvalid, hroom⟩ := (srInvariant_iff _).1 hinv
    rw [srInvariant_iff]
    cases hb : t.wires.exam with
    | none =>
      obtain ⟨hq, hq', hst, -⟩ := step_of_no_exam h hr hb
      have hacc : t.regs.srAcc = s.regs.srAcc := congrArg SrState.acc hst
      rw [hst, hacc, hq', ← hq]
      exact ⟨hvalid, hroom⟩
    | some b =>
      obtain ⟨-, hst, -⟩ := step_of_exam h hb
      refine ⟨hst ▸ hvalid.srAct b, (step_held_le h hb).trans ?_⟩
      cases hq : s.regs.srRep with
      | nil => exact hvalid.acc_length_lt
      | cons c q =>
        rw [hq, List.length_cons] at hroom
        rw [List.tail_cons]
        omega

/-- Settles O9: R32 lets the cycle answer, and the cycle keeps R29 and R32. -/
theorem stepIsTotalAndKeepsTheInvariants : Obligations.StepIsTotalAndKeepsTheInvariants := by
  rintro s ⟨hsr, hcc⟩
  obtain ⟨t, h, hcc'⟩ := step_answers_ccInvariant hcc
  exact ⟨t, h, step_srInvariant h hsr, hcc'⟩

end Sys2Proof.Machine
end

section
/-! PROOFS. The cycle step of R190 as one function: each of its parts (the offer to the sink, SR's
half, the routing, the slot and the request) is the step's, and O8 is assembled from them. -/

namespace Sys2Proof.Machine

/-! ## The parts of R190 that depend on S alone -/

/-- R155, R55: R190's offer to the sink is the cycle's, with no value where the read faults. -/
theorem refTx_eq_toOption {s : State} (hr : s.inp.rst = false) :
    refTx s.regs = (txOffer s).toOption := by
  unfold refTx txOffer
  rw [hr, if_neg Bool.false_ne_true]
  cases hc : s.regs.cc with
  | none => rfl
  | some p =>
    cases hp : p.phase with
    | wait => simp [hp, Except.toOption]
    | tx => cases hb : p.txf[p.txi]? <;> simp [hp, hb, Except.toOption]

/-- R125, R160: the frame of R190's SR half is the one that SR hands to CC. -/
theorem refSr_frame {s : State} (hr : s.inp.rst = false) :
    (refSr s.regs s.inp).frame = emitted s := by
  obtain ⟨b, q, -, hb, -, href⟩ | ⟨b, -, -, hb, -, href⟩ | ⟨-, hb, -, href⟩ := srSelect_cases hr
  · rw [href, emitted_of_examined hb]; rfl
  · rw [href, emitted_of_examined hb]; rfl
  · rw [href, emitted_of_examined_none hb]

/-- R161: `k` of R190 for that frame is the ACK byte of the matching reply. -/
theorem refAck_emitted (s : State) :
    refAck s.cfgReply s.regs (emitted s) = replyAck s := rfl

/-! ## The request block -/

/-- R150: with a command pending a request is dropped, whatever it is. -/
theorem refRequest_of_pending {r : Regs} {p : Pending} (hc : r.cc = some p) (i : CycleIn) :
    refRequest r i = (if i.req.isSome = true then some .alreadyPending else none, none) := by
  cases hq : i.req <;> simp [refRequest, hc, hq]

theorem refRequest_of_no_req {i : CycleIn} (hq : i.req = none) (r : Regs) :
    refRequest r i = (none, none) := by
  simp [refRequest, hq]

/-- R151, R152: with the slot free the response follows the length of the payload. -/
theorem refRequest_of_idle {r : Regs} {i : CycleIn} {q : Request} (hc : r.cc = none)
    (hq : i.req = some q) :
    refRequest r i =
      (if 255 < q.payload.length then some .invalidArgument else some .accepted,
        acceptedCommand i) := by
  by_cases hl : 255 < q.payload.length
  · simp [refRequest, acceptedCommand, hc, hq, hl, encodeFrame_of_too_long q.desc hl]
  · have hw := encodeFrame_of_fits q.desc (Nat.le_of_not_lt hl)
    simp [refRequest, acceptedCommand, hc, hq, hl, hw]

/-- R150 to R153: the response of a cycle is R190's. -/
theorem step_rq {s t : State} (h : step s = .next t) (hr : s.inp.rst = false) :
    t.out.rq = (refRequest s.regs s.inp).1 := by
  cases hc : s.regs.cc with
  | some p => rw [step_rq_of_pending h hr hc, refRequest_of_pending hc]
  | none =>
    obtain ⟨u, v, w, x, -, -, -, -, -, -, hx, rfl, -⟩ := step_next_slot h hr
    rw [runGroup_of_some (decodeGroup_ccRequest_of_idle hr hc)] at hx
    cases hq : s.inp.req with
    | none =>
      rw [hq] at hx
      rw [refRequest_of_no_req hq]
      cases hx
      rfl
    | some q =>
      simp only [hq] at hx
      rw [refRequest_of_idle hc hq]
      split_ifs at hx ⊢
      case pos =>
        cases hx
        rfl
      case neg =>
        obtain ⟨q', f, -, -, rfl⟩ := execReqAccept_next hx
        rfl

/-! ## The slot block -/

/-- R167: the completion of a cycle is R190's. -/
theorem step_cmp {s t : State} (h : step s = .next t) (hr : s.inp.rst = false) :
    t.out.cmp = s.regs.cc.bind fun p => refCompletion p s.inp (replyAck s) := by
  cases hc : s.regs.cc with
  | some p => exact step_cmp_of_pending h hr hc
  | none =>
    obtain ⟨hcmp, -⟩ := step_next_of_idle h hr hc
    exact hcmp

/-- R152, R168: the slot after a cycle is R190's. -/
theorem step_cc {s t : State} (h : step s = .next t) (hr : s.inp.rst = false) :
    t.regs.cc = refSlot s.regs s.inp (replyAck s) := by
  cases hc : s.regs.cc with
  | some p => simp only [refSlot, hc, step_cc_of_pending h hr hc, completionDue_eq hc]
  | none =>
    obtain ⟨-, -, hcc⟩ := step_next_of_idle h hr hc
    simp only [refSlot, hc, hcc]
    cases hq : s.inp.req with
    | none => rw [refRequest_of_no_req hq, acceptedCommand_of_no_req hq]
    | some q => rw [refRequest_of_idle hc hq]

/-! ## The whole cycle -/

/-- R190: the registers of a cycle without reset. -/
theorem step_regs_eq {s t : State} (h : step s = .next t) (hr : s.inp.rst = false) :
    t.regs =
      { srMode := (refSr s.regs s.inp).st.mode
        srPre := (refSr s.regs s.inp).st.pre
        srAcc := (refSr s.regs s.inp).st.acc
        srRep := (refSr s.regs s.inp).rep
        cc := refSlot s.regs s.inp (replyAck s) } := by
  obtain ⟨-, -, -, hst, hrep⟩ := step_sr h hr rfl
  rw [← hst, ← hrep, ← step_cc h hr]
  rfl

/-- R191: the output record of a cycle without reset. -/
theorem step_out_eq {s t : State} (h : step s = .next t) (hr : s.inp.rst = false) :
    t.out =
      { rxReady := s.regs.srRep.isEmpty
        busy := s.regs.cc.isSome
        tx := t.out.tx
        rq := (refRequest s.regs s.inp).1
        cmp := s.regs.cc.bind fun p => refCompletion p s.inp (replyAck s)
        fo := if (replyAck s).isSome = true then none else (emitted s).map (frameOut s) } := by
  obtain ⟨-, hfo⟩ := step_ack_fo h
  have hrx : t.out.rxReady = s.regs.srRep.isEmpty := by rw [step_rxReady h, rxReadyFlag, hr]; rfl
  have hbusy : t.out.busy = s.regs.cc.isSome := by rw [step_busy h, busyFlag, hr]; rfl
  rw [← hrx, ← hbusy, ← step_rq h hr, ← step_cmp h hr, ← hfo]

/-- R230: the cycle step of R190 in a reset cycle. -/
theorem refCycle_of_rst {i : CycleIn} (hr : i.rst = true) (reply : Byte → Frame → Option Byte)
    (cls : Byte → FrameClass) (r : Regs) :
    refCycle reply cls r i = some (.reset, .inactive) := by
  rw [refCycle, if_pos hr]

/-- R190: what a step answers is what the function answers. -/
theorem refCycle_of_step {s t : State} (h : step s = .next t) :
    refCycle s.cfgReply s.cfgClass s.regs s.inp = some (t.regs, t.out) := by
  cases hr : s.inp.rst with
  | true =>
    obtain ⟨hregs, -, hout⟩ := step_next_of_rst h hr
    rw [refCycle_of_rst hr, hregs, hout]
  | false =>
    have htx : refTx s.regs = some t.out.tx := by rw [refTx_eq_toOption hr, step_tx h]; rfl
    rw [step_regs_eq h hr, step_out_eq h hr]
    simp only [refCycle, hr, htx, refSr_frame hr, refAck_emitted]
    cases emitted s <;> cases replyAck s <;> rfl

/-- R55: where the offered byte cannot be read, R190 has no value; the fault names that read. -/
theorem refCycle_of_txOffer_error {s : State} {f : Fault} (h : txOffer s = .error f) :
    refCycle s.cfgReply s.cfgClass s.regs s.inp = none ∧ f = .txIndexOutOfRange := by
  obtain ⟨herr, hr, -⟩ | ⟨hok, -⟩ | ⟨p, b, hok, -⟩ := txOffer_cases s
  · have htx : refTx s.regs = none := by rw [refTx_eq_toOption hr, herr]; rfl
    cases herr.symm.trans h
    exact ⟨by simp [refCycle, hr, htx], rfl⟩
  · cases hok.symm.trans h
  · cases hok.symm.trans h

/-- R13, R37: what a cycle makes of the model's own fields, and that it keeps the configuration. -/
theorem step_form {s t : State} (h : step s = .next t) :
    t.nxt = t.regs ∧ t.cfg = s.cfg ∧ t.ports = s.ports.tail ∧ t.cycle = s.cycle + 1 := by
  refine ⟨(step_regs h).symm, step_cfg h, ?_⟩
  obtain ⟨u, v, ops, hu, -, hv, rfl⟩ := step_next h
  have start : SameStart s v := (beginCycle_sameStart hu).trans (runOps_sameStart hv)
  exact ⟨congrArg List.tail start.ports, congrArg (· + 1) start.cycle⟩

/-- Settles O8, by whether the byte to offer to the sink can be read. -/
theorem stepIsTheCycleStepOfTheSpec : Obligations.StepIsTheCycleStepOfTheSpec := by
  intro s
  cases htx : txOffer s with
  | ok tx =>
    obtain ⟨t, h⟩ := step_answers htx
    rw [refCycle_of_step h]
    exact ⟨t, h, rfl, rfl, step_form h⟩
  | error f =>
    obtain ⟨href, rfl⟩ := refCycle_of_txOffer_error htx
    rw [href]
    exact step_of_beginCycle_fault (beginCycle_of_txOffer_error htx)

end Sys2Proof.Machine
end

section
/-! PROOFS. What CC answers in the face of an exception: the response to a request it may have to
refuse (R207), and the one completion of several causes at once (R206). -/

namespace Sys2Proof.Machine

/-- R207: R190's response to a request, busy before too long. -/
theorem refRequest_response (r : Regs) (i : CycleIn) :
    (refRequest r i).1 = i.req.map fun q =>
      if r.cc.isSome = true then .alreadyPending
      else if 255 < q.payload.length then .invalidArgument else .accepted := by
  cases hq : i.req with
  | none => rw [refRequest_of_no_req hq]; rfl
  | some q =>
    cases hc : r.cc with
    | some p => rw [refRequest_of_pending hc, hq]; rfl
    | none =>
      rw [refRequest_of_idle hc hq]
      by_cases hl : 255 < q.payload.length <;> simp [hl]

/-- Settles O47: a reset cycle has no response, any other has R190's. -/
theorem requestIsAnsweredAgainstTheStartState :
    Obligations.RequestIsAnsweredAgainstTheStartState := by
  intro s t h
  cases hr : s.inp.rst with
  | true =>
    obtain ⟨-, -, hout⟩ := step_next_of_rst h hr
    rw [hout]
    rfl
  | false => exact (step_rq h hr).trans (refRequest_response s.regs s.inp)

/-- Settles O49: the completion is R190's for the pending command, by whether its reply is there. -/
theorem completionFollowsThePriority : Obligations.CompletionFollowsThePriority := by
  intro s t h hr
  rw [step_cmp h hr]
  refine congrArg (Option.bind s.regs.cc) (funext fun p => ?_)
  cases replyAck s with
  | some k => exact refCompletion_of_reply p s.inp k
  | none => simp only [refCompletion_of_no_reply, and_comm (a := p.phase = .tx)]

end Sys2Proof.Machine
end

section
/-! PROOFS. RESET and the cycles around it (R230, R231): the operation in any state, the cycle with
`rst` = 1, and the outputs of a cycle that starts in the reset registers; O12, O13 and O44. -/

namespace Sys2Proof.Machine

/-- Settles O44: RESET is the one operation `resetAll`, whatever the state. -/
theorem resetOperationAnswers : Obligations.ResetOperationAnswers :=
  fun s => congrArg Host.Outcome.next (resetAll_eq s)

/-- R155, R231: a reset cycle offers nothing to the sink, so it never reads TXBUF. -/
theorem txOffer_of_rst {s : State} (hr : s.inp.rst = true) : txOffer s = .ok none := by
  rw [txOffer, if_pos hr]

/-- Settles O12: such a cycle always answers, and RESET alone makes the registers and outputs. -/
theorem resetCycleResetsEverything : Obligations.ResetCycleResetsEverything := by
  intro s hr
  obtain ⟨t, h⟩ := step_answers (txOffer_of_rst hr)
  obtain ⟨hregs, hwires, hout⟩ := step_next_of_rst h hr
  have htaken : t.wires.taken = none := by rw [hwires]
  exact ⟨t, h, hregs, hout, htaken, step_cfg h⟩

/-- R125: SR emits no frame while it scans for the sync marker. -/
theorem emitted_of_scan {s : State} (hm : s.regs.srMode = .scan) : emitted s = none := by
  simp [emitted, candidate, hm]

/-- Settles O13: R39's registers (scanning, an empty queue, a free slot) give each output. -/
theorem firstCycleAfterResetIsReady : Obligations.FirstCycleAfterResetIsReady := by
  intro s hs hr
  have hscan : s.regs.srMode = .scan := by rw [hs]; rfl
  have hqueue : s.regs.srRep = [] := by rw [hs]; rfl
  have hfree : s.regs.cc = none := by rw [hs]; rfl
  have hoffer : txOffer s = .ok none := txOffer_of_idle hfree
  obtain ⟨t, h⟩ := step_answers hoffer
  refine ⟨t, h, (step_rxReady_iff h).2 ⟨hqueue, hr⟩, ?busy, ?tx, ?cmp, ?fo, fun hq => ?rq⟩
  case busy => rw [step_busy h, busyFlag_of_idle hfree]
  case tx => exact Except.ok.inj ((step_tx h).symm.trans hoffer)
  case cmp => rw [step_cmp h hr, hfree, Option.bind_none]
  case fo => exact step_fo_of_not_emitted h hr (emitted_of_scan hscan)
  case rq => rw [step_rq h hr, refRequest_of_no_req hq]

end Sys2Proof.Machine
end
